-- ==== Sys2Proof/Word.lean ====
section
/-! DEFINITION. The two word widths of the machine (00_scope.md R9): 8-bit data and 16-bit addresses. Everything
a rule computes with them (byte order, extension) stands in Decode.lean and under Machine/. -/

namespace Sys2Proof

/-- An 8-bit value: A, X, Y, SP, P, and every byte on the bus (R9). -/
abbrev Byte := BitVec 8

/-- A 16-bit value: PC and every address (R9). -/
abbrev Word := BitVec 16

end Sys2Proof
end

