-- ==== Sys2Proof/Config.lean ====
section
/-! DEFINITION. The implementation parameters of 00_scope.md R10, as plain data that no instruction changes, and
the free values: constants without a body, of which nothing can be proved. The fixed choices of R10
(RESET_VECTOR, STACK_BASE, SP_RESET, P_RESET, BRK_OPCODE) are not parameters and stand where they are used. -/

namespace Sys2Proof

/-- ADVANCE_POLICY (R138, R140, D9). -/
inductive AdvancePolicy where
  /-- The advance is skipped exactly when the handler wrote PC. -/
  | written
  /-- The advance is skipped exactly when PC differs from pc1. -/
  | compare
deriving DecidableEq, Repr

/-- UNDOC_POLICY (R106, R147, D10). -/
inductive UndocPolicy where
  | implement
  | refuse
deriving DecidableEq, Repr

/-- SBC_FORM (R184, D12, conflict C1). -/
inductive SbcForm where
  /-- The operand is complemented: A + ~M + C. -/
  | complement
  /-- The literal reading `not_minus_one`: A + (~M - 1) + C. -/
  | complementMinusOne
deriving DecidableEq, Repr

/-- PLP_POLICY (R233, D13). -/
inductive PlpPolicy where
  | literal
  | asRti
deriving DecidableEq, Repr

/-- MEM_MAP (R67, R68, D15, conflict C3). -/
inductive MemMap where
  | flat
  | nesStore
deriving DecidableEq, Repr

/-- MEM_INIT (R78, D17). -/
inductive MemInit where
  /-- Memory before any write is all zero. -/
  | zero
  /-- Every never-written byte is a free draw. -/
  | free
deriving DecidableEq, Repr

/-- The open parameters of R10. The defaults are the ones R10 names; LOAD_ADDR has no default there and takes the
address of the spec's examples (D24, log entry 9). -/
structure Config where
  strictDecode  : Bool          := false
  advancePolicy : AdvancePolicy := .written
  undocPolicy   : UndocPolicy   := .implement
  sbcForm       : SbcForm       := .complement
  plpPolicy     : PlpPolicy     := .literal
  memMap        : MemMap        := .flat
  memInit       : MemInit       := .zero
  xaaMagic      : Byte          := 0xFF
  lxaMagic      : Byte          := 0xFF
  loadAddr      : Word          := 0x0600
deriving DecidableEq, Repr

/-- FREE VALUE. What the external collaborator answers to the n-th read of the peripheral window (R66, D16). -/
opaque Config.periphRead : Nat → Byte

/-- FREE VALUE. What never-written byte number n of the backing store holds under MEM_INIT = free (R78, D17). -/
opaque Config.freeMemByte : Nat → Byte

end Sys2Proof
end

