-- ==== Sys2Proof/Syntax.lean ====
section
/-! DEFINITION. The instruction set as syntax: one constructor of Instr per row of spec/opcode_table.json (one per
opcode byte value, R94), carrying its operand bytes, and the tags of a table entry (R92, R100, R101). A
constructor's name is its mnemonic and its form; a mnemonic and form with several opcode values carry the value. -/

namespace Sys2Proof

/-- The ten mode tags of the resolver (R100). -/
inductive Mode where
  | immediate | zeroPage | zeroPageX | zeroPageY | absolute | absoluteX | absoluteY | indirectX | indirectY | implied
deriving DecidableEq, Repr

/-- The three classes of byte values (R101). -/
inductive OpClass where
  | official | undocumented | unmapped
deriving DecidableEq, Repr

/-- The instruction rule an entry selects: the "handler" output of the decoder (R92). `jam` selects the fallback
(R104). -/
inductive Mnemonic where
  | brk | ora | jam | slo | nop | asl | php | anc | bpl | clc | jsr | and | rla | bit | rol | plp | bmi | sec
  | rti | eor | sre | lsr | pha | alr | jmp | bvc | cli | rts | adc | rra | ror | pla | arr | bvs | sei | sta
  | sax | sty | stx | dey | txa | xaa | bcc | sha | tya | txs | tas | shy | shx | ldy | lda | ldx | lax | tay
  | tax | lxa | bcs | clv | tsx | las | cpy | cmp | dcp | dec | iny | dex | sbx | bne | cld | cpx | sbc | isb
  | inc | inx | usbc | beq | sed
deriving DecidableEq, Repr

/-- A row of the opcode table (R92): the opcode byte, the instruction rule, the class, the mode tag, the
length including the opcode, and the base cycle cost. -/
structure Entry where
  opcode   : Byte
  mnemonic : Mnemonic
  cls      : OpClass
  mode     : Mode
  len      : Nat
  cycles   : Nat
deriving DecidableEq, Repr

/-- The instructions: row by row of the opcode map R94. Operand `d` is an immediate or a displacement, `a` a
zero-page address, `w` the 16-bit operand assembled little-endian (R91). The forms without operand bytes come last:
Lean's runtime numbers only so many constructors with fields. -/
inductive Instr where
  -- forms with operand bytes, in the order of the opcode map
  | oraIndx (a : Byte) | sloIndx (a : Byte) | nopZp04 (a : Byte) | oraZp (a : Byte) | aslZp (a : Byte)
  | sloZp (a : Byte) | oraImm (d : Byte) | ancImm0B (d : Byte) | nopAbs (w : Word) | oraAbs (w : Word)
  | aslAbs (w : Word) | sloAbs (w : Word) | bplRel (d : Byte) | oraIndy (a : Byte) | sloIndy (a : Byte)
  | nopZpx14 (a : Byte) | oraZpx (a : Byte) | aslZpx (a : Byte) | sloZpx (a : Byte) | oraAbsy (w : Word)
  | sloAbsy (w : Word) | nopAbsx1C (w : Word) | oraAbsx (w : Word) | aslAbsx (w : Word) | sloAbsx (w : Word)
  | jsrAbs (w : Word) | andIndx (a : Byte) | rlaIndx (a : Byte) | bitZp (a : Byte) | andZp (a : Byte)
  | rolZp (a : Byte) | rlaZp (a : Byte) | andImm (d : Byte) | ancImm2B (d : Byte) | bitAbs (w : Word)
  | andAbs (w : Word) | rolAbs (w : Word) | rlaAbs (w : Word) | bmiRel (d : Byte) | andIndy (a : Byte)
  | rlaIndy (a : Byte) | nopZpx34 (a : Byte) | andZpx (a : Byte) | rolZpx (a : Byte) | rlaZpx (a : Byte)
  | andAbsy (w : Word) | rlaAbsy (w : Word) | nopAbsx3C (w : Word) | andAbsx (w : Word) | rolAbsx (w : Word)
  | rlaAbsx (w : Word) | eorIndx (a : Byte) | sreIndx (a : Byte) | nopZp44 (a : Byte) | eorZp (a : Byte)
  | lsrZp (a : Byte) | sreZp (a : Byte) | eorImm (d : Byte) | alrImm (d : Byte) | jmpAbs (w : Word)
  | eorAbs (w : Word) | lsrAbs (w : Word) | sreAbs (w : Word) | bvcRel (d : Byte) | eorIndy (a : Byte)
  | sreIndy (a : Byte) | nopZpx54 (a : Byte) | eorZpx (a : Byte) | lsrZpx (a : Byte) | sreZpx (a : Byte)
  | eorAbsy (w : Word) | sreAbsy (w : Word) | nopAbsx5C (w : Word) | eorAbsx (w : Word) | lsrAbsx (w : Word)
  | sreAbsx (w : Word) | adcIndx (a : Byte) | rraIndx (a : Byte) | nopZp64 (a : Byte) | adcZp (a : Byte)
  | rorZp (a : Byte) | rraZp (a : Byte) | adcImm (d : Byte) | arrImm (d : Byte) | jmpInd (w : Word)
  | adcAbs (w : Word) | rorAbs (w : Word) | rraAbs (w : Word) | bvsRel (d : Byte) | adcIndy (a : Byte)
  | rraIndy (a : Byte) | nopZpx74 (a : Byte) | adcZpx (a : Byte) | rorZpx (a : Byte) | rraZpx (a : Byte)
  | adcAbsy (w : Word) | rraAbsy (w : Word) | nopAbsx7C (w : Word) | adcAbsx (w : Word) | rorAbsx (w : Word)
  | rraAbsx (w : Word) | nopImm80 (d : Byte) | staIndx (a : Byte) | nopImm82 (d : Byte) | saxIndx (a : Byte)
  | styZp (a : Byte) | staZp (a : Byte) | stxZp (a : Byte) | saxZp (a : Byte) | nopImm89 (d : Byte)
  | xaaImm (d : Byte) | styAbs (w : Word) | staAbs (w : Word) | stxAbs (w : Word) | saxAbs (w : Word)
  | bccRel (d : Byte) | staIndy (a : Byte) | shaIndy (a : Byte) | styZpx (a : Byte) | staZpx (a : Byte)
  | stxZpy (a : Byte) | saxZpy (a : Byte) | staAbsy (w : Word) | tasAbsy (w : Word) | shyAbsx (w : Word)
  | staAbsx (w : Word) | shxAbsy (w : Word) | shaAbsy (w : Word) | ldyImm (d : Byte) | ldaIndx (a : Byte)
  | ldxImm (d : Byte) | laxIndx (a : Byte) | ldyZp (a : Byte) | ldaZp (a : Byte) | ldxZp (a : Byte)
  | laxZp (a : Byte) | ldaImm (d : Byte) | lxaImm (d : Byte) | ldyAbs (w : Word) | ldaAbs (w : Word)
  | ldxAbs (w : Word) | laxAbs (w : Word) | bcsRel (d : Byte) | ldaIndy (a : Byte) | laxIndy (a : Byte)
  | ldyZpx (a : Byte) | ldaZpx (a : Byte) | ldxZpy (a : Byte) | laxZpy (a : Byte) | ldaAbsy (w : Word)
  | lasAbsy (w : Word) | ldyAbsx (w : Word) | ldaAbsx (w : Word) | ldxAbsy (w : Word) | laxAbsy (w : Word)
  | cpyImm (d : Byte) | cmpIndx (a : Byte) | nopImmC2 (d : Byte) | dcpIndx (a : Byte) | cpyZp (a : Byte)
  | cmpZp (a : Byte) | decZp (a : Byte) | dcpZp (a : Byte) | cmpImm (d : Byte) | sbxImm (d : Byte)
  | cpyAbs (w : Word) | cmpAbs (w : Word) | decAbs (w : Word) | dcpAbs (w : Word) | bneRel (d : Byte)
  | cmpIndy (a : Byte) | dcpIndy (a : Byte) | nopZpxD4 (a : Byte) | cmpZpx (a : Byte) | decZpx (a : Byte)
  | dcpZpx (a : Byte) | cmpAbsy (w : Word) | dcpAbsy (w : Word) | nopAbsxDC (w : Word) | cmpAbsx (w : Word)
  | decAbsx (w : Word) | dcpAbsx (w : Word) | cpxImm (d : Byte) | sbcIndx (a : Byte) | nopImmE2 (d : Byte)
  | isbIndx (a : Byte) | cpxZp (a : Byte) | sbcZp (a : Byte) | incZp (a : Byte) | isbZp (a : Byte)
  | sbcImm (d : Byte) | usbcImm (d : Byte) | cpxAbs (w : Word) | sbcAbs (w : Word) | incAbs (w : Word)
  | isbAbs (w : Word) | beqRel (d : Byte) | sbcIndy (a : Byte) | isbIndy (a : Byte) | nopZpxF4 (a : Byte)
  | sbcZpx (a : Byte) | incZpx (a : Byte) | isbZpx (a : Byte) | sbcAbsy (w : Word) | isbAbsy (w : Word)
  | nopAbsxFC (w : Word) | sbcAbsx (w : Word) | incAbsx (w : Word) | isbAbsx (w : Word)
  -- forms without
  | brk | jam02 | php | aslAcc | jam12 | clc | nop1A | jam22 | plp | rolAcc | jam32 | sec | nop3A | rti | jam42
  | pha | lsrAcc | jam52 | cli | nop5A | rts | jam62 | pla | rorAcc | jam72 | sei | nop7A | dey | txa | jam92
  | tya | txs | tay | tax | jamB2 | clv | tsx | iny | dex | jamD2 | cld | nopDA | inx | nop | jamF2 | sed
  | nopFA
deriving DecidableEq, Repr

end Sys2Proof
end

