-- ==== Sys2Proof/Decode.lean ====
section
/-! DEFINITION. The decoder (6502_instruction_decoder, R92): the opcode table of spec/opcode_table.json, the opcode
map R94 looked up by the whole byte, decoding of byte lists, total and rejecting by name; and the encoder. The
byte-order and extension helpers of R11 and R12 stand first. -/

namespace Sys2Proof

/-- `{h, l}` of R11: the 16-bit concatenation h * 256 + l. -/
def word16 (h l : Byte) : Word := h ++ l

/-- `lo8(a)` of R11: a[7:0]. -/
def lo8 (a : Word) : Byte := a.extractLsb' 0 8

/-- `hi8(a)` of R11: a[15:8]. -/
def hi8 (a : Word) : Byte := a.extractLsb' 8 8

/-- `zext_16(d)` of R12: d with high byte 0. -/
def zext16 (d : Byte) : Word := d.zeroExtend 16

/-- `sext_16(d)` of R12: d if d[7] = 0, else 0xFF00 | d. -/
def sext16 (d : Byte) : Word := d.signExtend 16

/-- The opcode table: the entry of each instruction (R92, opcode_table.json). -/
def Instr.entry : Instr → Entry
  | .brk => ⟨0x00, .brk, .official, .implied, 1, 7⟩
  | .oraIndx _ => ⟨0x01, .ora, .official, .indirectX, 2, 6⟩
  | .jam02 => ⟨0x02, .jam, .unmapped, .implied, 1, 1⟩
  | .sloIndx _ => ⟨0x03, .slo, .undocumented, .indirectX, 2, 8⟩
  | .nopZp04 _ => ⟨0x04, .nop, .undocumented, .zeroPage, 2, 3⟩
  | .oraZp _ => ⟨0x05, .ora, .official, .zeroPage, 2, 3⟩
  | .aslZp _ => ⟨0x06, .asl, .official, .zeroPage, 2, 5⟩
  | .sloZp _ => ⟨0x07, .slo, .undocumented, .zeroPage, 2, 5⟩
  | .php => ⟨0x08, .php, .official, .implied, 1, 3⟩
  | .oraImm _ => ⟨0x09, .ora, .official, .immediate, 2, 2⟩
  | .aslAcc => ⟨0x0A, .asl, .official, .implied, 1, 2⟩
  | .ancImm0B _ => ⟨0x0B, .anc, .undocumented, .immediate, 2, 2⟩
  | .nopAbs _ => ⟨0x0C, .nop, .undocumented, .absolute, 3, 4⟩
  | .oraAbs _ => ⟨0x0D, .ora, .official, .absolute, 3, 4⟩
  | .aslAbs _ => ⟨0x0E, .asl, .official, .absolute, 3, 6⟩
  | .sloAbs _ => ⟨0x0F, .slo, .undocumented, .absolute, 3, 6⟩
  | .bplRel _ => ⟨0x10, .bpl, .official, .implied, 2, 2⟩
  | .oraIndy _ => ⟨0x11, .ora, .official, .indirectY, 2, 5⟩
  | .jam12 => ⟨0x12, .jam, .unmapped, .implied, 1, 1⟩
  | .sloIndy _ => ⟨0x13, .slo, .undocumented, .indirectY, 2, 8⟩
  | .nopZpx14 _ => ⟨0x14, .nop, .undocumented, .zeroPageX, 2, 4⟩
  | .oraZpx _ => ⟨0x15, .ora, .official, .zeroPageX, 2, 4⟩
  | .aslZpx _ => ⟨0x16, .asl, .official, .zeroPageX, 2, 6⟩
  | .sloZpx _ => ⟨0x17, .slo, .undocumented, .zeroPageX, 2, 6⟩
  | .clc => ⟨0x18, .clc, .official, .implied, 1, 2⟩
  | .oraAbsy _ => ⟨0x19, .ora, .official, .absoluteY, 3, 4⟩
  | .nop1A => ⟨0x1A, .nop, .undocumented, .implied, 1, 2⟩
  | .sloAbsy _ => ⟨0x1B, .slo, .undocumented, .absoluteY, 3, 7⟩
  | .nopAbsx1C _ => ⟨0x1C, .nop, .undocumented, .absoluteX, 3, 4⟩
  | .oraAbsx _ => ⟨0x1D, .ora, .official, .absoluteX, 3, 4⟩
  | .aslAbsx _ => ⟨0x1E, .asl, .official, .absoluteX, 3, 7⟩
  | .sloAbsx _ => ⟨0x1F, .slo, .undocumented, .absoluteX, 3, 7⟩
  | .jsrAbs _ => ⟨0x20, .jsr, .official, .absolute, 3, 6⟩
  | .andIndx _ => ⟨0x21, .and, .official, .indirectX, 2, 6⟩
  | .jam22 => ⟨0x22, .jam, .unmapped, .implied, 1, 1⟩
  | .rlaIndx _ => ⟨0x23, .rla, .undocumented, .indirectX, 2, 8⟩
  | .bitZp _ => ⟨0x24, .bit, .official, .zeroPage, 2, 3⟩
  | .andZp _ => ⟨0x25, .and, .official, .zeroPage, 2, 3⟩
  | .rolZp _ => ⟨0x26, .rol, .official, .zeroPage, 2, 5⟩
  | .rlaZp _ => ⟨0x27, .rla, .undocumented, .zeroPage, 2, 5⟩
  | .plp => ⟨0x28, .plp, .official, .implied, 1, 4⟩
  | .andImm _ => ⟨0x29, .and, .official, .immediate, 2, 2⟩
  | .rolAcc => ⟨0x2A, .rol, .official, .implied, 1, 2⟩
  | .ancImm2B _ => ⟨0x2B, .anc, .undocumented, .immediate, 2, 2⟩
  | .bitAbs _ => ⟨0x2C, .bit, .official, .absolute, 3, 4⟩
  | .andAbs _ => ⟨0x2D, .and, .official, .absolute, 3, 4⟩
  | .rolAbs _ => ⟨0x2E, .rol, .official, .absolute, 3, 6⟩
  | .rlaAbs _ => ⟨0x2F, .rla, .undocumented, .absolute, 3, 6⟩
  | .bmiRel _ => ⟨0x30, .bmi, .official, .implied, 2, 2⟩
  | .andIndy _ => ⟨0x31, .and, .official, .indirectY, 2, 5⟩
  | .jam32 => ⟨0x32, .jam, .unmapped, .implied, 1, 1⟩
  | .rlaIndy _ => ⟨0x33, .rla, .undocumented, .indirectY, 2, 8⟩
  | .nopZpx34 _ => ⟨0x34, .nop, .undocumented, .zeroPageX, 2, 4⟩
  | .andZpx _ => ⟨0x35, .and, .official, .zeroPageX, 2, 4⟩
  | .rolZpx _ => ⟨0x36, .rol, .official, .zeroPageX, 2, 6⟩
  | .rlaZpx _ => ⟨0x37, .rla, .undocumented, .zeroPageX, 2, 6⟩
  | .sec => ⟨0x38, .sec, .official, .implied, 1, 2⟩
  | .andAbsy _ => ⟨0x39, .and, .official, .absoluteY, 3, 4⟩
  | .nop3A => ⟨0x3A, .nop, .undocumented, .implied, 1, 2⟩
  | .rlaAbsy _ => ⟨0x3B, .rla, .undocumented, .absoluteY, 3, 7⟩
  | .nopAbsx3C _ => ⟨0x3C, .nop, .undocumented, .absoluteX, 3, 4⟩
  | .andAbsx _ => ⟨0x3D, .and, .official, .absoluteX, 3, 4⟩
  | .rolAbsx _ => ⟨0x3E, .rol, .official, .absoluteX, 3, 7⟩
  | .rlaAbsx _ => ⟨0x3F, .rla, .undocumented, .absoluteX, 3, 7⟩
  | .rti => ⟨0x40, .rti, .official, .implied, 1, 6⟩
  | .eorIndx _ => ⟨0x41, .eor, .official, .indirectX, 2, 6⟩
  | .jam42 => ⟨0x42, .jam, .unmapped, .implied, 1, 1⟩
  | .sreIndx _ => ⟨0x43, .sre, .undocumented, .indirectX, 2, 8⟩
  | .nopZp44 _ => ⟨0x44, .nop, .undocumented, .zeroPage, 2, 3⟩
  | .eorZp _ => ⟨0x45, .eor, .official, .zeroPage, 2, 3⟩
  | .lsrZp _ => ⟨0x46, .lsr, .official, .zeroPage, 2, 5⟩
  | .sreZp _ => ⟨0x47, .sre, .undocumented, .zeroPage, 2, 5⟩
  | .pha => ⟨0x48, .pha, .official, .implied, 1, 3⟩
  | .eorImm _ => ⟨0x49, .eor, .official, .immediate, 2, 2⟩
  | .lsrAcc => ⟨0x4A, .lsr, .official, .implied, 1, 2⟩
  | .alrImm _ => ⟨0x4B, .alr, .undocumented, .immediate, 2, 2⟩
  | .jmpAbs _ => ⟨0x4C, .jmp, .official, .absolute, 3, 3⟩
  | .eorAbs _ => ⟨0x4D, .eor, .official, .absolute, 3, 4⟩
  | .lsrAbs _ => ⟨0x4E, .lsr, .official, .absolute, 3, 6⟩
  | .sreAbs _ => ⟨0x4F, .sre, .undocumented, .absolute, 3, 6⟩
  | .bvcRel _ => ⟨0x50, .bvc, .official, .implied, 2, 2⟩
  | .eorIndy _ => ⟨0x51, .eor, .official, .indirectY, 2, 5⟩
  | .jam52 => ⟨0x52, .jam, .unmapped, .implied, 1, 1⟩
  | .sreIndy _ => ⟨0x53, .sre, .undocumented, .indirectY, 2, 8⟩
  | .nopZpx54 _ => ⟨0x54, .nop, .undocumented, .zeroPageX, 2, 4⟩
  | .eorZpx _ => ⟨0x55, .eor, .official, .zeroPageX, 2, 4⟩
  | .lsrZpx _ => ⟨0x56, .lsr, .official, .zeroPageX, 2, 6⟩
  | .sreZpx _ => ⟨0x57, .sre, .undocumented, .zeroPageX, 2, 6⟩
  | .cli => ⟨0x58, .cli, .official, .implied, 1, 2⟩
  | .eorAbsy _ => ⟨0x59, .eor, .official, .absoluteY, 3, 4⟩
  | .nop5A => ⟨0x5A, .nop, .undocumented, .implied, 1, 2⟩
  | .sreAbsy _ => ⟨0x5B, .sre, .undocumented, .absoluteY, 3, 7⟩
  | .nopAbsx5C _ => ⟨0x5C, .nop, .undocumented, .absoluteX, 3, 4⟩
  | .eorAbsx _ => ⟨0x5D, .eor, .official, .absoluteX, 3, 4⟩
  | .lsrAbsx _ => ⟨0x5E, .lsr, .official, .absoluteX, 3, 7⟩
  | .sreAbsx _ => ⟨0x5F, .sre, .undocumented, .absoluteX, 3, 7⟩
  | .rts => ⟨0x60, .rts, .official, .implied, 1, 6⟩
  | .adcIndx _ => ⟨0x61, .adc, .official, .indirectX, 2, 6⟩
  | .jam62 => ⟨0x62, .jam, .unmapped, .implied, 1, 1⟩
  | .rraIndx _ => ⟨0x63, .rra, .undocumented, .indirectX, 2, 8⟩
  | .nopZp64 _ => ⟨0x64, .nop, .undocumented, .zeroPage, 2, 3⟩
  | .adcZp _ => ⟨0x65, .adc, .official, .zeroPage, 2, 3⟩
  | .rorZp _ => ⟨0x66, .ror, .official, .zeroPage, 2, 5⟩
  | .rraZp _ => ⟨0x67, .rra, .undocumented, .zeroPage, 2, 5⟩
  | .pla => ⟨0x68, .pla, .official, .implied, 1, 4⟩
  | .adcImm _ => ⟨0x69, .adc, .official, .immediate, 2, 2⟩
  | .rorAcc => ⟨0x6A, .ror, .official, .implied, 1, 2⟩
  | .arrImm _ => ⟨0x6B, .arr, .undocumented, .immediate, 2, 2⟩
  | .jmpInd _ => ⟨0x6C, .jmp, .official, .implied, 3, 5⟩
  | .adcAbs _ => ⟨0x6D, .adc, .official, .absolute, 3, 4⟩
  | .rorAbs _ => ⟨0x6E, .ror, .official, .absolute, 3, 6⟩
  | .rraAbs _ => ⟨0x6F, .rra, .undocumented, .absolute, 3, 6⟩
  | .bvsRel _ => ⟨0x70, .bvs, .official, .implied, 2, 2⟩
  | .adcIndy _ => ⟨0x71, .adc, .official, .indirectY, 2, 5⟩
  | .jam72 => ⟨0x72, .jam, .unmapped, .implied, 1, 1⟩
  | .rraIndy _ => ⟨0x73, .rra, .undocumented, .indirectY, 2, 8⟩
  | .nopZpx74 _ => ⟨0x74, .nop, .undocumented, .zeroPageX, 2, 4⟩
  | .adcZpx _ => ⟨0x75, .adc, .official, .zeroPageX, 2, 4⟩
  | .rorZpx _ => ⟨0x76, .ror, .official, .zeroPageX, 2, 6⟩
  | .rraZpx _ => ⟨0x77, .rra, .undocumented, .zeroPageX, 2, 6⟩
  | .sei => ⟨0x78, .sei, .official, .implied, 1, 2⟩
  | .adcAbsy _ => ⟨0x79, .adc, .official, .absoluteY, 3, 4⟩
  | .nop7A => ⟨0x7A, .nop, .undocumented, .implied, 1, 2⟩
  | .rraAbsy _ => ⟨0x7B, .rra, .undocumented, .absoluteY, 3, 7⟩
  | .nopAbsx7C _ => ⟨0x7C, .nop, .undocumented, .absoluteX, 3, 4⟩
  | .adcAbsx _ => ⟨0x7D, .adc, .official, .absoluteX, 3, 4⟩
  | .rorAbsx _ => ⟨0x7E, .ror, .official, .absoluteX, 3, 7⟩
  | .rraAbsx _ => ⟨0x7F, .rra, .undocumented, .absoluteX, 3, 7⟩
  | .nopImm80 _ => ⟨0x80, .nop, .undocumented, .immediate, 2, 2⟩
  | .staIndx _ => ⟨0x81, .sta, .official, .indirectX, 2, 6⟩
  | .nopImm82 _ => ⟨0x82, .nop, .undocumented, .immediate, 2, 2⟩
  | .saxIndx _ => ⟨0x83, .sax, .undocumented, .indirectX, 2, 6⟩
  | .styZp _ => ⟨0x84, .sty, .official, .zeroPage, 2, 3⟩
  | .staZp _ => ⟨0x85, .sta, .official, .zeroPage, 2, 3⟩
  | .stxZp _ => ⟨0x86, .stx, .official, .zeroPage, 2, 3⟩
  | .saxZp _ => ⟨0x87, .sax, .undocumented, .zeroPage, 2, 3⟩
  | .dey => ⟨0x88, .dey, .official, .implied, 1, 2⟩
  | .nopImm89 _ => ⟨0x89, .nop, .undocumented, .immediate, 2, 2⟩
  | .txa => ⟨0x8A, .txa, .official, .implied, 1, 2⟩
  | .xaaImm _ => ⟨0x8B, .xaa, .undocumented, .immediate, 2, 2⟩
  | .styAbs _ => ⟨0x8C, .sty, .official, .absolute, 3, 4⟩
  | .staAbs _ => ⟨0x8D, .sta, .official, .absolute, 3, 4⟩
  | .stxAbs _ => ⟨0x8E, .stx, .official, .absolute, 3, 4⟩
  | .saxAbs _ => ⟨0x8F, .sax, .undocumented, .absolute, 3, 4⟩
  | .bccRel _ => ⟨0x90, .bcc, .official, .implied, 2, 2⟩
  | .staIndy _ => ⟨0x91, .sta, .official, .indirectY, 2, 6⟩
  | .jam92 => ⟨0x92, .jam, .unmapped, .implied, 1, 1⟩
  | .shaIndy _ => ⟨0x93, .sha, .undocumented, .indirectY, 2, 6⟩
  | .styZpx _ => ⟨0x94, .sty, .official, .zeroPageX, 2, 4⟩
  | .staZpx _ => ⟨0x95, .sta, .official, .zeroPageX, 2, 4⟩
  | .stxZpy _ => ⟨0x96, .stx, .official, .zeroPageY, 2, 4⟩
  | .saxZpy _ => ⟨0x97, .sax, .undocumented, .zeroPageY, 2, 4⟩
  | .tya => ⟨0x98, .tya, .official, .implied, 1, 2⟩
  | .staAbsy _ => ⟨0x99, .sta, .official, .absoluteY, 3, 5⟩
  | .txs => ⟨0x9A, .txs, .official, .implied, 1, 2⟩
  | .tasAbsy _ => ⟨0x9B, .tas, .undocumented, .absoluteY, 3, 5⟩
  | .shyAbsx _ => ⟨0x9C, .shy, .undocumented, .absoluteX, 3, 5⟩
  | .staAbsx _ => ⟨0x9D, .sta, .official, .absoluteX, 3, 5⟩
  | .shxAbsy _ => ⟨0x9E, .shx, .undocumented, .absoluteY, 3, 5⟩
  | .shaAbsy _ => ⟨0x9F, .sha, .undocumented, .absoluteY, 3, 5⟩
  | .ldyImm _ => ⟨0xA0, .ldy, .official, .immediate, 2, 2⟩
  | .ldaIndx _ => ⟨0xA1, .lda, .official, .indirectX, 2, 6⟩
  | .ldxImm _ => ⟨0xA2, .ldx, .official, .immediate, 2, 2⟩
  | .laxIndx _ => ⟨0xA3, .lax, .undocumented, .indirectX, 2, 6⟩
  | .ldyZp _ => ⟨0xA4, .ldy, .official, .zeroPage, 2, 3⟩
  | .ldaZp _ => ⟨0xA5, .lda, .official, .zeroPage, 2, 3⟩
  | .ldxZp _ => ⟨0xA6, .ldx, .official, .zeroPage, 2, 3⟩
  | .laxZp _ => ⟨0xA7, .lax, .undocumented, .zeroPage, 2, 3⟩
  | .tay => ⟨0xA8, .tay, .official, .implied, 1, 2⟩
  | .ldaImm _ => ⟨0xA9, .lda, .official, .immediate, 2, 2⟩
  | .tax => ⟨0xAA, .tax, .official, .implied, 1, 2⟩
  | .lxaImm _ => ⟨0xAB, .lxa, .undocumented, .immediate, 2, 2⟩
  | .ldyAbs _ => ⟨0xAC, .ldy, .official, .absolute, 3, 4⟩
  | .ldaAbs _ => ⟨0xAD, .lda, .official, .absolute, 3, 4⟩
  | .ldxAbs _ => ⟨0xAE, .ldx, .official, .absolute, 3, 4⟩
  | .laxAbs _ => ⟨0xAF, .lax, .undocumented, .absolute, 3, 4⟩
  | .bcsRel _ => ⟨0xB0, .bcs, .official, .implied, 2, 2⟩
  | .ldaIndy _ => ⟨0xB1, .lda, .official, .indirectY, 2, 5⟩
  | .jamB2 => ⟨0xB2, .jam, .unmapped, .implied, 1, 1⟩
  | .laxIndy _ => ⟨0xB3, .lax, .undocumented, .indirectY, 2, 5⟩
  | .ldyZpx _ => ⟨0xB4, .ldy, .official, .zeroPageX, 2, 4⟩
  | .ldaZpx _ => ⟨0xB5, .lda, .official, .zeroPageX, 2, 4⟩
  | .ldxZpy _ => ⟨0xB6, .ldx, .official, .zeroPageY, 2, 4⟩
  | .laxZpy _ => ⟨0xB7, .lax, .undocumented, .zeroPageY, 2, 4⟩
  | .clv => ⟨0xB8, .clv, .official, .implied, 1, 2⟩
  | .ldaAbsy _ => ⟨0xB9, .lda, .official, .absoluteY, 3, 4⟩
  | .tsx => ⟨0xBA, .tsx, .official, .implied, 1, 2⟩
  | .lasAbsy _ => ⟨0xBB, .las, .undocumented, .absoluteY, 3, 4⟩
  | .ldyAbsx _ => ⟨0xBC, .ldy, .official, .absoluteX, 3, 4⟩
  | .ldaAbsx _ => ⟨0xBD, .lda, .official, .absoluteX, 3, 4⟩
  | .ldxAbsy _ => ⟨0xBE, .ldx, .official, .absoluteY, 3, 4⟩
  | .laxAbsy _ => ⟨0xBF, .lax, .undocumented, .absoluteY, 3, 4⟩
  | .cpyImm _ => ⟨0xC0, .cpy, .official, .immediate, 2, 2⟩
  | .cmpIndx _ => ⟨0xC1, .cmp, .official, .indirectX, 2, 6⟩
  | .nopImmC2 _ => ⟨0xC2, .nop, .undocumented, .immediate, 2, 2⟩
  | .dcpIndx _ => ⟨0xC3, .dcp, .undocumented, .indirectX, 2, 8⟩
  | .cpyZp _ => ⟨0xC4, .cpy, .official, .zeroPage, 2, 3⟩
  | .cmpZp _ => ⟨0xC5, .cmp, .official, .zeroPage, 2, 3⟩
  | .decZp _ => ⟨0xC6, .dec, .official, .zeroPage, 2, 5⟩
  | .dcpZp _ => ⟨0xC7, .dcp, .undocumented, .zeroPage, 2, 5⟩
  | .iny => ⟨0xC8, .iny, .official, .implied, 1, 2⟩
  | .cmpImm _ => ⟨0xC9, .cmp, .official, .immediate, 2, 2⟩
  | .dex => ⟨0xCA, .dex, .official, .implied, 1, 2⟩
  | .sbxImm _ => ⟨0xCB, .sbx, .undocumented, .immediate, 2, 2⟩
  | .cpyAbs _ => ⟨0xCC, .cpy, .official, .absolute, 3, 4⟩
  | .cmpAbs _ => ⟨0xCD, .cmp, .official, .absolute, 3, 4⟩
  | .decAbs _ => ⟨0xCE, .dec, .official, .absolute, 3, 6⟩
  | .dcpAbs _ => ⟨0xCF, .dcp, .undocumented, .absolute, 3, 6⟩
  | .bneRel _ => ⟨0xD0, .bne, .official, .implied, 2, 2⟩
  | .cmpIndy _ => ⟨0xD1, .cmp, .official, .indirectY, 2, 5⟩
  | .jamD2 => ⟨0xD2, .jam, .unmapped, .implied, 1, 1⟩
  | .dcpIndy _ => ⟨0xD3, .dcp, .undocumented, .indirectY, 2, 8⟩
  | .nopZpxD4 _ => ⟨0xD4, .nop, .undocumented, .zeroPageX, 2, 4⟩
  | .cmpZpx _ => ⟨0xD5, .cmp, .official, .zeroPageX, 2, 4⟩
  | .decZpx _ => ⟨0xD6, .dec, .official, .zeroPageX, 2, 6⟩
  | .dcpZpx _ => ⟨0xD7, .dcp, .undocumented, .zeroPageX, 2, 6⟩
  | .cld => ⟨0xD8, .cld, .official, .implied, 1, 2⟩
  | .cmpAbsy _ => ⟨0xD9, .cmp, .official, .absoluteY, 3, 4⟩
  | .nopDA => ⟨0xDA, .nop, .undocumented, .implied, 1, 2⟩
  | .dcpAbsy _ => ⟨0xDB, .dcp, .undocumented, .absoluteY, 3, 7⟩
  | .nopAbsxDC _ => ⟨0xDC, .nop, .undocumented, .absoluteX, 3, 4⟩
  | .cmpAbsx _ => ⟨0xDD, .cmp, .official, .absoluteX, 3, 4⟩
  | .decAbsx _ => ⟨0xDE, .dec, .official, .absoluteX, 3, 7⟩
  | .dcpAbsx _ => ⟨0xDF, .dcp, .undocumented, .absoluteX, 3, 7⟩
  | .cpxImm _ => ⟨0xE0, .cpx, .official, .immediate, 2, 2⟩
  | .sbcIndx _ => ⟨0xE1, .sbc, .official, .indirectX, 2, 6⟩
  | .nopImmE2 _ => ⟨0xE2, .nop, .undocumented, .immediate, 2, 2⟩
  | .isbIndx _ => ⟨0xE3, .isb, .undocumented, .indirectX, 2, 8⟩
  | .cpxZp _ => ⟨0xE4, .cpx, .official, .zeroPage, 2, 3⟩
  | .sbcZp _ => ⟨0xE5, .sbc, .official, .zeroPage, 2, 3⟩
  | .incZp _ => ⟨0xE6, .inc, .official, .zeroPage, 2, 5⟩
  | .isbZp _ => ⟨0xE7, .isb, .undocumented, .zeroPage, 2, 5⟩
  | .inx => ⟨0xE8, .inx, .official, .implied, 1, 2⟩
  | .sbcImm _ => ⟨0xE9, .sbc, .official, .immediate, 2, 2⟩
  | .nop => ⟨0xEA, .nop, .official, .implied, 1, 2⟩
  | .usbcImm _ => ⟨0xEB, .usbc, .undocumented, .immediate, 2, 2⟩
  | .cpxAbs _ => ⟨0xEC, .cpx, .official, .absolute, 3, 4⟩
  | .sbcAbs _ => ⟨0xED, .sbc, .official, .absolute, 3, 4⟩
  | .incAbs _ => ⟨0xEE, .inc, .official, .absolute, 3, 6⟩
  | .isbAbs _ => ⟨0xEF, .isb, .undocumented, .absolute, 3, 6⟩
  | .beqRel _ => ⟨0xF0, .beq, .official, .implied, 2, 2⟩
  | .sbcIndy _ => ⟨0xF1, .sbc, .official, .indirectY, 2, 5⟩
  | .jamF2 => ⟨0xF2, .jam, .unmapped, .implied, 1, 1⟩
  | .isbIndy _ => ⟨0xF3, .isb, .undocumented, .indirectY, 2, 8⟩
  | .nopZpxF4 _ => ⟨0xF4, .nop, .undocumented, .zeroPageX, 2, 4⟩
  | .sbcZpx _ => ⟨0xF5, .sbc, .official, .zeroPageX, 2, 4⟩
  | .incZpx _ => ⟨0xF6, .inc, .official, .zeroPageX, 2, 6⟩
  | .isbZpx _ => ⟨0xF7, .isb, .undocumented, .zeroPageX, 2, 6⟩
  | .sed => ⟨0xF8, .sed, .official, .implied, 1, 2⟩
  | .sbcAbsy _ => ⟨0xF9, .sbc, .official, .absoluteY, 3, 4⟩
  | .nopFA => ⟨0xFA, .nop, .undocumented, .implied, 1, 2⟩
  | .isbAbsy _ => ⟨0xFB, .isb, .undocumented, .absoluteY, 3, 7⟩
  | .nopAbsxFC _ => ⟨0xFC, .nop, .undocumented, .absoluteX, 3, 4⟩
  | .sbcAbsx _ => ⟨0xFD, .sbc, .official, .absoluteX, 3, 4⟩
  | .incAbsx _ => ⟨0xFE, .inc, .official, .absoluteX, 3, 7⟩
  | .isbAbsx _ => ⟨0xFF, .isb, .undocumented, .absoluteX, 3, 7⟩

/-- The encoder: the bytes of an instruction, opcode first and a 16-bit operand low byte first (R91). -/
def encode : Instr → List Byte
  | .brk => [0x00]
  | .oraIndx a => [0x01, a]
  | .jam02 => [0x02]
  | .sloIndx a => [0x03, a]
  | .nopZp04 a => [0x04, a]
  | .oraZp a => [0x05, a]
  | .aslZp a => [0x06, a]
  | .sloZp a => [0x07, a]
  | .php => [0x08]
  | .oraImm d => [0x09, d]
  | .aslAcc => [0x0A]
  | .ancImm0B d => [0x0B, d]
  | .nopAbs w => [0x0C, lo8 w, hi8 w]
  | .oraAbs w => [0x0D, lo8 w, hi8 w]
  | .aslAbs w => [0x0E, lo8 w, hi8 w]
  | .sloAbs w => [0x0F, lo8 w, hi8 w]
  | .bplRel d => [0x10, d]
  | .oraIndy a => [0x11, a]
  | .jam12 => [0x12]
  | .sloIndy a => [0x13, a]
  | .nopZpx14 a => [0x14, a]
  | .oraZpx a => [0x15, a]
  | .aslZpx a => [0x16, a]
  | .sloZpx a => [0x17, a]
  | .clc => [0x18]
  | .oraAbsy w => [0x19, lo8 w, hi8 w]
  | .nop1A => [0x1A]
  | .sloAbsy w => [0x1B, lo8 w, hi8 w]
  | .nopAbsx1C w => [0x1C, lo8 w, hi8 w]
  | .oraAbsx w => [0x1D, lo8 w, hi8 w]
  | .aslAbsx w => [0x1E, lo8 w, hi8 w]
  | .sloAbsx w => [0x1F, lo8 w, hi8 w]
  | .jsrAbs w => [0x20, lo8 w, hi8 w]
  | .andIndx a => [0x21, a]
  | .jam22 => [0x22]
  | .rlaIndx a => [0x23, a]
  | .bitZp a => [0x24, a]
  | .andZp a => [0x25, a]
  | .rolZp a => [0x26, a]
  | .rlaZp a => [0x27, a]
  | .plp => [0x28]
  | .andImm d => [0x29, d]
  | .rolAcc => [0x2A]
  | .ancImm2B d => [0x2B, d]
  | .bitAbs w => [0x2C, lo8 w, hi8 w]
  | .andAbs w => [0x2D, lo8 w, hi8 w]
  | .rolAbs w => [0x2E, lo8 w, hi8 w]
  | .rlaAbs w => [0x2F, lo8 w, hi8 w]
  | .bmiRel d => [0x30, d]
  | .andIndy a => [0x31, a]
  | .jam32 => [0x32]
  | .rlaIndy a => [0x33, a]
  | .nopZpx34 a => [0x34, a]
  | .andZpx a => [0x35, a]
  | .rolZpx a => [0x36, a]
  | .rlaZpx a => [0x37, a]
  | .sec => [0x38]
  | .andAbsy w => [0x39, lo8 w, hi8 w]
  | .nop3A => [0x3A]
  | .rlaAbsy w => [0x3B, lo8 w, hi8 w]
  | .nopAbsx3C w => [0x3C, lo8 w, hi8 w]
  | .andAbsx w => [0x3D, lo8 w, hi8 w]
  | .rolAbsx w => [0x3E, lo8 w, hi8 w]
  | .rlaAbsx w => [0x3F, lo8 w, hi8 w]
  | .rti => [0x40]
  | .eorIndx a => [0x41, a]
  | .jam42 => [0x42]
  | .sreIndx a => [0x43, a]
  | .nopZp44 a => [0x44, a]
  | .eorZp a => [0x45, a]
  | .lsrZp a => [0x46, a]
  | .sreZp a => [0x47, a]
  | .pha => [0x48]
  | .eorImm d => [0x49, d]
  | .lsrAcc => [0x4A]
  | .alrImm d => [0x4B, d]
  | .jmpAbs w => [0x4C, lo8 w, hi8 w]
  | .eorAbs w => [0x4D, lo8 w, hi8 w]
  | .lsrAbs w => [0x4E, lo8 w, hi8 w]
  | .sreAbs w => [0x4F, lo8 w, hi8 w]
  | .bvcRel d => [0x50, d]
  | .eorIndy a => [0x51, a]
  | .jam52 => [0x52]
  | .sreIndy a => [0x53, a]
  | .nopZpx54 a => [0x54, a]
  | .eorZpx a => [0x55, a]
  | .lsrZpx a => [0x56, a]
  | .sreZpx a => [0x57, a]
  | .cli => [0x58]
  | .eorAbsy w => [0x59, lo8 w, hi8 w]
  | .nop5A => [0x5A]
  | .sreAbsy w => [0x5B, lo8 w, hi8 w]
  | .nopAbsx5C w => [0x5C, lo8 w, hi8 w]
  | .eorAbsx w => [0x5D, lo8 w, hi8 w]
  | .lsrAbsx w => [0x5E, lo8 w, hi8 w]
  | .sreAbsx w => [0x5F, lo8 w, hi8 w]
  | .rts => [0x60]
  | .adcIndx a => [0x61, a]
  | .jam62 => [0x62]
  | .rraIndx a => [0x63, a]
  | .nopZp64 a => [0x64, a]
  | .adcZp a => [0x65, a]
  | .rorZp a => [0x66, a]
  | .rraZp a => [0x67, a]
  | .pla => [0x68]
  | .adcImm d => [0x69, d]
  | .rorAcc => [0x6A]
  | .arrImm d => [0x6B, d]
  | .jmpInd w => [0x6C, lo8 w, hi8 w]
  | .adcAbs w => [0x6D, lo8 w, hi8 w]
  | .rorAbs w => [0x6E, lo8 w, hi8 w]
  | .rraAbs w => [0x6F, lo8 w, hi8 w]
  | .bvsRel d => [0x70, d]
  | .adcIndy a => [0x71, a]
  | .jam72 => [0x72]
  | .rraIndy a => [0x73, a]
  | .nopZpx74 a => [0x74, a]
  | .adcZpx a => [0x75, a]
  | .rorZpx a => [0x76, a]
  | .rraZpx a => [0x77, a]
  | .sei => [0x78]
  | .adcAbsy w => [0x79, lo8 w, hi8 w]
  | .nop7A => [0x7A]
  | .rraAbsy w => [0x7B, lo8 w, hi8 w]
  | .nopAbsx7C w => [0x7C, lo8 w, hi8 w]
  | .adcAbsx w => [0x7D, lo8 w, hi8 w]
  | .rorAbsx w => [0x7E, lo8 w, hi8 w]
  | .rraAbsx w => [0x7F, lo8 w, hi8 w]
  | .nopImm80 d => [0x80, d]
  | .staIndx a => [0x81, a]
  | .nopImm82 d => [0x82, d]
  | .saxIndx a => [0x83, a]
  | .styZp a => [0x84, a]
  | .staZp a => [0x85, a]
  | .stxZp a => [0x86, a]
  | .saxZp a => [0x87, a]
  | .dey => [0x88]
  | .nopImm89 d => [0x89, d]
  | .txa => [0x8A]
  | .xaaImm d => [0x8B, d]
  | .styAbs w => [0x8C, lo8 w, hi8 w]
  | .staAbs w => [0x8D, lo8 w, hi8 w]
  | .stxAbs w => [0x8E, lo8 w, hi8 w]
  | .saxAbs w => [0x8F, lo8 w, hi8 w]
  | .bccRel d => [0x90, d]
  | .staIndy a => [0x91, a]
  | .jam92 => [0x92]
  | .shaIndy a => [0x93, a]
  | .styZpx a => [0x94, a]
  | .staZpx a => [0x95, a]
  | .stxZpy a => [0x96, a]
  | .saxZpy a => [0x97, a]
  | .tya => [0x98]
  | .staAbsy w => [0x99, lo8 w, hi8 w]
  | .txs => [0x9A]
  | .tasAbsy w => [0x9B, lo8 w, hi8 w]
  | .shyAbsx w => [0x9C, lo8 w, hi8 w]
  | .staAbsx w => [0x9D, lo8 w, hi8 w]
  | .shxAbsy w => [0x9E, lo8 w, hi8 w]
  | .shaAbsy w => [0x9F, lo8 w, hi8 w]
  | .ldyImm d => [0xA0, d]
  | .ldaIndx a => [0xA1, a]
  | .ldxImm d => [0xA2, d]
  | .laxIndx a => [0xA3, a]
  | .ldyZp a => [0xA4, a]
  | .ldaZp a => [0xA5, a]
  | .ldxZp a => [0xA6, a]
  | .laxZp a => [0xA7, a]
  | .tay => [0xA8]
  | .ldaImm d => [0xA9, d]
  | .tax => [0xAA]
  | .lxaImm d => [0xAB, d]
  | .ldyAbs w => [0xAC, lo8 w, hi8 w]
  | .ldaAbs w => [0xAD, lo8 w, hi8 w]
  | .ldxAbs w => [0xAE, lo8 w, hi8 w]
  | .laxAbs w => [0xAF, lo8 w, hi8 w]
  | .bcsRel d => [0xB0, d]
  | .ldaIndy a => [0xB1, a]
  | .jamB2 => [0xB2]
  | .laxIndy a => [0xB3, a]
  | .ldyZpx a => [0xB4, a]
  | .ldaZpx a => [0xB5, a]
  | .ldxZpy a => [0xB6, a]
  | .laxZpy a => [0xB7, a]
  | .clv => [0xB8]
  | .ldaAbsy w => [0xB9, lo8 w, hi8 w]
  | .tsx => [0xBA]
  | .lasAbsy w => [0xBB, lo8 w, hi8 w]
  | .ldyAbsx w => [0xBC, lo8 w, hi8 w]
  | .ldaAbsx w => [0xBD, lo8 w, hi8 w]
  | .ldxAbsy w => [0xBE, lo8 w, hi8 w]
  | .laxAbsy w => [0xBF, lo8 w, hi8 w]
  | .cpyImm d => [0xC0, d]
  | .cmpIndx a => [0xC1, a]
  | .nopImmC2 d => [0xC2, d]
  | .dcpIndx a => [0xC3, a]
  | .cpyZp a => [0xC4, a]
  | .cmpZp a => [0xC5, a]
  | .decZp a => [0xC6, a]
  | .dcpZp a => [0xC7, a]
  | .iny => [0xC8]
  | .cmpImm d => [0xC9, d]
  | .dex => [0xCA]
  | .sbxImm d => [0xCB, d]
  | .cpyAbs w => [0xCC, lo8 w, hi8 w]
  | .cmpAbs w => [0xCD, lo8 w, hi8 w]
  | .decAbs w => [0xCE, lo8 w, hi8 w]
  | .dcpAbs w => [0xCF, lo8 w, hi8 w]
  | .bneRel d => [0xD0, d]
  | .cmpIndy a => [0xD1, a]
  | .jamD2 => [0xD2]
  | .dcpIndy a => [0xD3, a]
  | .nopZpxD4 a => [0xD4, a]
  | .cmpZpx a => [0xD5, a]
  | .decZpx a => [0xD6, a]
  | .dcpZpx a => [0xD7, a]
  | .cld => [0xD8]
  | .cmpAbsy w => [0xD9, lo8 w, hi8 w]
  | .nopDA => [0xDA]
  | .dcpAbsy w => [0xDB, lo8 w, hi8 w]
  | .nopAbsxDC w => [0xDC, lo8 w, hi8 w]
  | .cmpAbsx w => [0xDD, lo8 w, hi8 w]
  | .decAbsx w => [0xDE, lo8 w, hi8 w]
  | .dcpAbsx w => [0xDF, lo8 w, hi8 w]
  | .cpxImm d => [0xE0, d]
  | .sbcIndx a => [0xE1, a]
  | .nopImmE2 d => [0xE2, d]
  | .isbIndx a => [0xE3, a]
  | .cpxZp a => [0xE4, a]
  | .sbcZp a => [0xE5, a]
  | .incZp a => [0xE6, a]
  | .isbZp a => [0xE7, a]
  | .inx => [0xE8]
  | .sbcImm d => [0xE9, d]
  | .nop => [0xEA]
  | .usbcImm d => [0xEB, d]
  | .cpxAbs w => [0xEC, lo8 w, hi8 w]
  | .sbcAbs w => [0xED, lo8 w, hi8 w]
  | .incAbs w => [0xEE, lo8 w, hi8 w]
  | .isbAbs w => [0xEF, lo8 w, hi8 w]
  | .beqRel d => [0xF0, d]
  | .sbcIndy a => [0xF1, a]
  | .jamF2 => [0xF2]
  | .isbIndy a => [0xF3, a]
  | .nopZpxF4 a => [0xF4, a]
  | .sbcZpx a => [0xF5, a]
  | .incZpx a => [0xF6, a]
  | .isbZpx a => [0xF7, a]
  | .sed => [0xF8]
  | .sbcAbsy w => [0xF9, lo8 w, hi8 w]
  | .nopFA => [0xFA]
  | .isbAbsy w => [0xFB, lo8 w, hi8 w]
  | .nopAbsxFC w => [0xFC, lo8 w, hi8 w]
  | .sbcAbsx w => [0xFD, lo8 w, hi8 w]
  | .incAbsx w => [0xFE, lo8 w, hi8 w]
  | .isbAbsx w => [0xFF, lo8 w, hi8 w]

/-- Row 0x of the opcode map (R94): l is byte 1 and h is byte 2 of the instruction, where its form has them. -/
def opcodeMap0 : List (Byte → Byte → Instr) :=
  [fun _ _ => .brk, fun l _ => .oraIndx l, fun _ _ => .jam02, fun l _ => .sloIndx l,
   fun l _ => .nopZp04 l, fun l _ => .oraZp l, fun l _ => .aslZp l, fun l _ => .sloZp l,
   fun _ _ => .php, fun l _ => .oraImm l, fun _ _ => .aslAcc, fun l _ => .ancImm0B l,
   fun l h => .nopAbs (word16 h l), fun l h => .oraAbs (word16 h l), fun l h => .aslAbs (word16 h l), fun l h => .sloAbs (word16 h l)]

/-- Row 1x of the opcode map (R94): l is byte 1 and h is byte 2 of the instruction, where its form has them. -/
def opcodeMap1 : List (Byte → Byte → Instr) :=
  [fun l _ => .bplRel l, fun l _ => .oraIndy l, fun _ _ => .jam12, fun l _ => .sloIndy l,
   fun l _ => .nopZpx14 l, fun l _ => .oraZpx l, fun l _ => .aslZpx l, fun l _ => .sloZpx l,
   fun _ _ => .clc, fun l h => .oraAbsy (word16 h l), fun _ _ => .nop1A, fun l h => .sloAbsy (word16 h l),
   fun l h => .nopAbsx1C (word16 h l), fun l h => .oraAbsx (word16 h l), fun l h => .aslAbsx (word16 h l), fun l h => .sloAbsx (word16 h l)]

/-- Row 2x of the opcode map (R94): l is byte 1 and h is byte 2 of the instruction, where its form has them. -/
def opcodeMap2 : List (Byte → Byte → Instr) :=
  [fun l h => .jsrAbs (word16 h l), fun l _ => .andIndx l, fun _ _ => .jam22, fun l _ => .rlaIndx l,
   fun l _ => .bitZp l, fun l _ => .andZp l, fun l _ => .rolZp l, fun l _ => .rlaZp l,
   fun _ _ => .plp, fun l _ => .andImm l, fun _ _ => .rolAcc, fun l _ => .ancImm2B l,
   fun l h => .bitAbs (word16 h l), fun l h => .andAbs (word16 h l), fun l h => .rolAbs (word16 h l), fun l h => .rlaAbs (word16 h l)]

/-- Row 3x of the opcode map (R94): l is byte 1 and h is byte 2 of the instruction, where its form has them. -/
def opcodeMap3 : List (Byte → Byte → Instr) :=
  [fun l _ => .bmiRel l, fun l _ => .andIndy l, fun _ _ => .jam32, fun l _ => .rlaIndy l,
   fun l _ => .nopZpx34 l, fun l _ => .andZpx l, fun l _ => .rolZpx l, fun l _ => .rlaZpx l,
   fun _ _ => .sec, fun l h => .andAbsy (word16 h l), fun _ _ => .nop3A, fun l h => .rlaAbsy (word16 h l),
   fun l h => .nopAbsx3C (word16 h l), fun l h => .andAbsx (word16 h l), fun l h => .rolAbsx (word16 h l), fun l h => .rlaAbsx (word16 h l)]

/-- Row 4x of the opcode map (R94): l is byte 1 and h is byte 2 of the instruction, where its form has them. -/
def opcodeMap4 : List (Byte → Byte → Instr) :=
  [fun _ _ => .rti, fun l _ => .eorIndx l, fun _ _ => .jam42, fun l _ => .sreIndx l,
   fun l _ => .nopZp44 l, fun l _ => .eorZp l, fun l _ => .lsrZp l, fun l _ => .sreZp l,
   fun _ _ => .pha, fun l _ => .eorImm l, fun _ _ => .lsrAcc, fun l _ => .alrImm l,
   fun l h => .jmpAbs (word16 h l), fun l h => .eorAbs (word16 h l), fun l h => .lsrAbs (word16 h l), fun l h => .sreAbs (word16 h l)]

/-- Row 5x of the opcode map (R94): l is byte 1 and h is byte 2 of the instruction, where its form has them. -/
def opcodeMap5 : List (Byte → Byte → Instr) :=
  [fun l _ => .bvcRel l, fun l _ => .eorIndy l, fun _ _ => .jam52, fun l _ => .sreIndy l,
   fun l _ => .nopZpx54 l, fun l _ => .eorZpx l, fun l _ => .lsrZpx l, fun l _ => .sreZpx l,
   fun _ _ => .cli, fun l h => .eorAbsy (word16 h l), fun _ _ => .nop5A, fun l h => .sreAbsy (word16 h l),
   fun l h => .nopAbsx5C (word16 h l), fun l h => .eorAbsx (word16 h l), fun l h => .lsrAbsx (word16 h l), fun l h => .sreAbsx (word16 h l)]

/-- Row 6x of the opcode map (R94): l is byte 1 and h is byte 2 of the instruction, where its form has them. -/
def opcodeMap6 : List (Byte → Byte → Instr) :=
  [fun _ _ => .rts, fun l _ => .adcIndx l, fun _ _ => .jam62, fun l _ => .rraIndx l,
   fun l _ => .nopZp64 l, fun l _ => .adcZp l, fun l _ => .rorZp l, fun l _ => .rraZp l,
   fun _ _ => .pla, fun l _ => .adcImm l, fun _ _ => .rorAcc, fun l _ => .arrImm l,
   fun l h => .jmpInd (word16 h l), fun l h => .adcAbs (word16 h l), fun l h => .rorAbs (word16 h l), fun l h => .rraAbs (word16 h l)]

/-- Row 7x of the opcode map (R94): l is byte 1 and h is byte 2 of the instruction, where its form has them. -/
def opcodeMap7 : List (Byte → Byte → Instr) :=
  [fun l _ => .bvsRel l, fun l _ => .adcIndy l, fun _ _ => .jam72, fun l _ => .rraIndy l,
   fun l _ => .nopZpx74 l, fun l _ => .adcZpx l, fun l _ => .rorZpx l, fun l _ => .rraZpx l,
   fun _ _ => .sei, fun l h => .adcAbsy (word16 h l), fun _ _ => .nop7A, fun l h => .rraAbsy (word16 h l),
   fun l h => .nopAbsx7C (word16 h l), fun l h => .adcAbsx (word16 h l), fun l h => .rorAbsx (word16 h l), fun l h => .rraAbsx (word16 h l)]

/-- Row 8x of the opcode map (R94): l is byte 1 and h is byte 2 of the instruction, where its form has them. -/
def opcodeMap8 : List (Byte → Byte → Instr) :=
  [fun l _ => .nopImm80 l, fun l _ => .staIndx l, fun l _ => .nopImm82 l, fun l _ => .saxIndx l,
   fun l _ => .styZp l, fun l _ => .staZp l, fun l _ => .stxZp l, fun l _ => .saxZp l,
   fun _ _ => .dey, fun l _ => .nopImm89 l, fun _ _ => .txa, fun l _ => .xaaImm l,
   fun l h => .styAbs (word16 h l), fun l h => .staAbs (word16 h l), fun l h => .stxAbs (word16 h l), fun l h => .saxAbs (word16 h l)]

/-- Row 9x of the opcode map (R94): l is byte 1 and h is byte 2 of the instruction, where its form has them. -/
def opcodeMap9 : List (Byte → Byte → Instr) :=
  [fun l _ => .bccRel l, fun l _ => .staIndy l, fun _ _ => .jam92, fun l _ => .shaIndy l,
   fun l _ => .styZpx l, fun l _ => .staZpx l, fun l _ => .stxZpy l, fun l _ => .saxZpy l,
   fun _ _ => .tya, fun l h => .staAbsy (word16 h l), fun _ _ => .txs, fun l h => .tasAbsy (word16 h l),
   fun l h => .shyAbsx (word16 h l), fun l h => .staAbsx (word16 h l), fun l h => .shxAbsy (word16 h l), fun l h => .shaAbsy (word16 h l)]

/-- Row Ax of the opcode map (R94): l is byte 1 and h is byte 2 of the instruction, where its form has them. -/
def opcodeMapA : List (Byte → Byte → Instr) :=
  [fun l _ => .ldyImm l, fun l _ => .ldaIndx l, fun l _ => .ldxImm l, fun l _ => .laxIndx l,
   fun l _ => .ldyZp l, fun l _ => .ldaZp l, fun l _ => .ldxZp l, fun l _ => .laxZp l,
   fun _ _ => .tay, fun l _ => .ldaImm l, fun _ _ => .tax, fun l _ => .lxaImm l,
   fun l h => .ldyAbs (word16 h l), fun l h => .ldaAbs (word16 h l), fun l h => .ldxAbs (word16 h l), fun l h => .laxAbs (word16 h l)]

/-- Row Bx of the opcode map (R94): l is byte 1 and h is byte 2 of the instruction, where its form has them. -/
def opcodeMapB : List (Byte → Byte → Instr) :=
  [fun l _ => .bcsRel l, fun l _ => .ldaIndy l, fun _ _ => .jamB2, fun l _ => .laxIndy l,
   fun l _ => .ldyZpx l, fun l _ => .ldaZpx l, fun l _ => .ldxZpy l, fun l _ => .laxZpy l,
   fun _ _ => .clv, fun l h => .ldaAbsy (word16 h l), fun _ _ => .tsx, fun l h => .lasAbsy (word16 h l),
   fun l h => .ldyAbsx (word16 h l), fun l h => .ldaAbsx (word16 h l), fun l h => .ldxAbsy (word16 h l), fun l h => .laxAbsy (word16 h l)]

/-- Row Cx of the opcode map (R94): l is byte 1 and h is byte 2 of the instruction, where its form has them. -/
def opcodeMapC : List (Byte → Byte → Instr) :=
  [fun l _ => .cpyImm l, fun l _ => .cmpIndx l, fun l _ => .nopImmC2 l, fun l _ => .dcpIndx l,
   fun l _ => .cpyZp l, fun l _ => .cmpZp l, fun l _ => .decZp l, fun l _ => .dcpZp l,
   fun _ _ => .iny, fun l _ => .cmpImm l, fun _ _ => .dex, fun l _ => .sbxImm l,
   fun l h => .cpyAbs (word16 h l), fun l h => .cmpAbs (word16 h l), fun l h => .decAbs (word16 h l), fun l h => .dcpAbs (word16 h l)]

/-- Row Dx of the opcode map (R94): l is byte 1 and h is byte 2 of the instruction, where its form has them. -/
def opcodeMapD : List (Byte → Byte → Instr) :=
  [fun l _ => .bneRel l, fun l _ => .cmpIndy l, fun _ _ => .jamD2, fun l _ => .dcpIndy l,
   fun l _ => .nopZpxD4 l, fun l _ => .cmpZpx l, fun l _ => .decZpx l, fun l _ => .dcpZpx l,
   fun _ _ => .cld, fun l h => .cmpAbsy (word16 h l), fun _ _ => .nopDA, fun l h => .dcpAbsy (word16 h l),
   fun l h => .nopAbsxDC (word16 h l), fun l h => .cmpAbsx (word16 h l), fun l h => .decAbsx (word16 h l), fun l h => .dcpAbsx (word16 h l)]

/-- Row Ex of the opcode map (R94): l is byte 1 and h is byte 2 of the instruction, where its form has them. -/
def opcodeMapE : List (Byte → Byte → Instr) :=
  [fun l _ => .cpxImm l, fun l _ => .sbcIndx l, fun l _ => .nopImmE2 l, fun l _ => .isbIndx l,
   fun l _ => .cpxZp l, fun l _ => .sbcZp l, fun l _ => .incZp l, fun l _ => .isbZp l,
   fun _ _ => .inx, fun l _ => .sbcImm l, fun _ _ => .nop, fun l _ => .usbcImm l,
   fun l h => .cpxAbs (word16 h l), fun l h => .sbcAbs (word16 h l), fun l h => .incAbs (word16 h l), fun l h => .isbAbs (word16 h l)]

/-- Row Fx of the opcode map (R94): l is byte 1 and h is byte 2 of the instruction, where its form has them. -/
def opcodeMapF : List (Byte → Byte → Instr) :=
  [fun l _ => .beqRel l, fun l _ => .sbcIndy l, fun _ _ => .jamF2, fun l _ => .isbIndy l,
   fun l _ => .nopZpxF4 l, fun l _ => .sbcZpx l, fun l _ => .incZpx l, fun l _ => .isbZpx l,
   fun _ _ => .sed, fun l h => .sbcAbsy (word16 h l), fun _ _ => .nopFA, fun l h => .isbAbsy (word16 h l),
   fun l h => .nopAbsxFC (word16 h l), fun l h => .sbcAbsx (word16 h l), fun l h => .incAbsx (word16 h l), fun l h => .isbAbsx (word16 h l)]

/-- The opcode map R94: rows by the high nibble of the opcode byte, columns by the low nibble. -/
def opcodeMap : List (List (Byte → Byte → Instr)) :=
  [opcodeMap0, opcodeMap1, opcodeMap2, opcodeMap3, opcodeMap4, opcodeMap5, opcodeMap6, opcodeMap7,
   opcodeMap8, opcodeMap9, opcodeMapA, opcodeMapB, opcodeMapC, opcodeMapD, opcodeMapE, opcodeMapF]

/-- The instruction of opcode byte op with byte 1 = l and byte 2 = h. The map has an instruction for each of the
256 values (R92), so the two defaults are never taken. -/
def buildInstr (op l h : Byte) : Instr :=
  ((opcodeMap.getD (op.toNat / 16) []).getD (op.toNat % 16) (fun _ _ => .brk)) l h

/-- The table entry of an opcode byte (R92): it depends on nothing but the byte (R90). -/
def entryOf (op : Byte) : Entry := (buildInstr op 0 0).entry

/-- Why a list of bytes is no instruction: every opcode byte decodes, so only bytes can be missing. -/
inductive DecodeError where
  /-- There is no opcode byte. -/
  | noOpcode
  /-- The opcode byte is there and an operand byte of its form is not. -/
  | operandMissing (opcode : Byte)
deriving DecidableEq, Repr

/-- Decodes the first instruction of a list of bytes and gives the bytes after it (R90). -/
def decode : List Byte → Except DecodeError (Instr × List Byte)
  | [] => .error .noOpcode
  | op :: rest =>
    let n := (entryOf op).len - 1
    if rest.length < n then .error (.operandMissing op)
    else .ok (buildInstr op (rest.getD 0 0) (rest.getD 1 0), rest.drop n)

/-- The three bytes, lowest address first, of an instruction whose bits are w, numbered as the opcode table numbers
them, every bit from nbits on being 0. Three bytes is the longest instruction (R90). -/
def wordBytes (nbits w : Nat) : List Byte :=
  let v := w % 2 ^ nbits
  [BitVec.ofNat 8 v, BitVec.ofNat 8 (v / 256), BitVec.ofNat 8 (v / 65536)]

/-- The instruction the decoder reads from an instruction whose bits are w. -/
def decodeTableWord (nbits w : Nat) : Option Instr :=
  match decode (wordBytes nbits w) with
  | .ok (i, _) => some i
  | .error _ => none

end Sys2Proof
end

