-- ==== Sys2Proof/Machine/State.lean ====
section
/-! DEFINITION. The state of the machine: the register file and status word (10_state.md), the engine state (R44,
R47), the backing store, the outputs of the last step (R48, R61), and the two things of the model's own: the
configuration and the count of free draws. INVENTORY.md lists each field with its rule and reset value. -/

namespace Sys2Proof.Machine

/-- The run state of the engine (R44). -/
inductive RunState where
  | ready | halted | faulted
deriving DecidableEq, Repr

/-- The two reasons of 60_exceptions.md: R320 and R321. -/
inductive FaultReason where
  | unmappedOpcode | impliedResolve
deriving DecidableEq, Repr

/-- The fault record of R47 and R141: the reason, the opcode byte, and the address it was fetched from. -/
structure FaultRecord where
  reason  : FaultReason
  opcode  : Byte
  address : Word
deriving DecidableEq, Repr

/-- The kind of a bus access (R61): R or W. -/
inductive BusKind where
  | read | write
deriving DecidableEq, Repr

/-- One bus access, as R61 records it: kind, address, byte. -/
structure BusEvent where
  kind    : BusKind
  address : Word
  byte    : Byte
deriving DecidableEq, Repr

/-- The bytes of the backing store that differ from what an unlisted cell reads as, cell numbers strictly rising
(Memory.wf). Under the flat map a cell number is the address; under nes_store it is the index into the 2048-byte
buffer (R67, R68). -/
abbrev Memory := List Host.Cell

/-- The machine. -/
structure State where
  /-- Accumulator (R31). -/
  a : Byte
  /-- Index register X (R32). -/
  x : Byte
  /-- Index register Y (R33). -/
  y : Byte
  /-- Stack pointer, an offset into the stack page (R34). -/
  sp : Byte
  /-- Program counter (R35). -/
  pc : Word
  /-- Status word P, every bit stored: N V b5 B D I Z C from bit 7 down (R36). -/
  p : Byte
  /-- Run state of the engine (R44). -/
  run : RunState
  /-- Fault record, kept until reset (R47). -/
  faultRec : Option FaultRecord
  /-- The cost the last step put out, none when it put out none (R48, R139). -/
  cost : Option Nat
  /-- The bus accesses of the last step or host operation, in the order they were made (R61, R131). -/
  bus : List BusEvent
  /-- The backing store behind the bus (R67, R68). -/
  mem : Memory
  /-- The model's own: how many peripheral-window reads have been made; read number n answers Config.periphRead n
  (log entry 5). -/
  draws : Nat
  /-- The model's own home of the parameters of R10, which nothing in the machine changes (log entry 1). -/
  cfg : Config
deriving DecidableEq, Repr

/-- Why the machine stops with a host-level fault: never. The two faults of the spec (R320, R321) are states of the
machine, run state FAULTED with a fault record (R141), reached by a next state. DESIGN CHOICE, safe: no behaviour is cut off (log entry 8). -/
inductive Fault where
deriving DecidableEq, Repr

/-- Why the model declines to give a meaning. -/
inductive Refusal where
  /-- An instruction without a meaning yet, by its mnemonic. Raised by no arm of this model. -/
  | notModelled (mnemonic : String)
  /-- UNDOC_POLICY = refuse and an opcode outside the 151 official ones, with its address (R106, R147). Raised by
  State.enter. Safe: the spec itself has the model refuse, and only under that setting (log entry 12). -/
  | undocumentedRefused (opcode : Byte) (address : Word)
  /-- A load of that many bytes that do not fit between LOAD_ADDR and 0x10000 (R342, D25: no defined result). Raised
  by State.hostLoad alone. DESIGN CHOICE, safe (log entry 13). -/
  | loadDoesNotFit (length : Nat)
deriving DecidableEq, Repr

/-- The machine at power-on (R50, R341): SP and P preset, everything else of the register file zero, READY, memory
as MEM_INIT. PRESUMED values, unsafe (D3 to D7, log entry 3). -/
def State.powerOn (cfg : Config) : State :=
  { a := 0x00, x := 0x00, y := 0x00, sp := 0xFD, pc := 0x0000, p := 0x24, run := .ready, faultRec := none,
    cost := none, bus := [], mem := [], draws := 0, cfg := cfg }

/-- The machine right after reset (R49, R340), the reset applied to the power-on state under the default parameters:
nothing has written the reset vector, so PC is the word of two MEM_INIT bytes, and the bus record holds the two
reads a reset makes. -/
def State.reset : State :=
  { a := 0x00, x := 0x00, y := 0x00, sp := 0xFD, pc := 0x0000, p := 0x24, run := .ready, faultRec := none,
    cost := none, bus := [⟨.read, 0xFFFC, 0x00⟩, ⟨.read, 0xFFFD, 0x00⟩], mem := [], draws := 0,
    cfg := { strictDecode := false, advancePolicy := .written, undocPolicy := .implement, sbcForm := .complement,
             plpPolicy := .literal, memMap := .flat, memInit := .zero, xaaMagic := 0xFF, lxaMagic := 0xFF,
             loadAddr := 0x0600 } }

end Sys2Proof.Machine
end

