-- ==== Sys2Proof/Machine/Flags.lean ====
section
/-! DEFINITION. The status word P (status_flags, R36 to R43) and the flag computations of alu_logic: the adder, the
comparator, the shift cores, BIT, and the flag rules of the undocumented immediates. They are functions of bytes:
each takes P before and gives P after. -/

namespace Sys2Proof.Machine

/-- The eight stored bits of P (R36). -/
inductive Flag where
  | n | v | b5 | b | d | i | z | c
deriving DecidableEq, Repr

/-- The place of a flag in P (R36). -/
def Flag.mask : Flag → Byte
  | .n => 0x80 | .v => 0x40 | .b5 => 0x20 | .b => 0x10 | .d => 0x08 | .i => 0x04 | .z => 0x02 | .c => 0x01

/-- `get(flag)` of R36. -/
def getFlag (f : Flag) (p : Byte) : Bool := (p &&& f.mask) != 0

/-- `set(flag, bool)` of R36. -/
def setFlag (f : Flag) (on : Bool) (p : Byte) : Byte := if on then p ||| f.mask else p &&& ~~~f.mask

/-- `setNZ(v)` of R40. -/
def setNZ (v p : Byte) : Byte := setFlag .z (v == 0x00) (setFlag .n (v.getLsbD 7) p)

/-- P.C as a number. -/
def carryNat (p : Byte) : Nat := if getFlag .c p then 1 else 0

/-- The push image of P (R37). -/
def pushImage (p : Byte) : Byte := p ||| 0x30

/-- What PLP loads P with (R233). -/
def plpImage (policy : PlpPolicy) (v : Byte) : Byte :=
  match policy with
  | .literal => v ||| 0x10
  | .asRti => (v &&& ~~~0x10) ||| 0x20

/-- What RTI loads P with: B low and bit 5 high (R254). -/
def rtiImage (v : Byte) : Byte := (v &&& ~~~0x10) ||| 0x20

/-- `adc_core(m)` of R180 and R181: the new A and the new P. P.D is not read (R182). -/
def adcCore (a m p : Byte) : Byte × Byte :=
  let s := a.toNat + m.toNat + carryNat p
  let r := BitVec.ofNat 8 s
  (r, setNZ r (setFlag .v (((m ^^^ r) &&& (r ^^^ a) &&& 0x80) != 0) (setFlag .c (decide (255 < s)) p)))

/-- The operand SBC hands to the adder (R184). -/
def sbcOperand (form : SbcForm) (m : Byte) : Byte :=
  match form with
  | .complement => ~~~m
  | .complementMinusOne => ~~~m - 1

/-- `cmp_core(reg, m)` of R185: the new P. -/
def cmpCore (reg m p : Byte) : Byte :=
  setFlag .n ((reg - m).getLsbD 7) (setFlag .z (reg == m) (setFlag .c (decide (m ≤ reg)) p))

/-- BIT's flags (R214): Z from A & m, N and V from m itself. -/
def bitCore (a m p : Byte) : Byte :=
  setFlag .v (m.getLsbD 6) (setFlag .n (m.getLsbD 7) (setFlag .z ((a &&& m) == 0x00) p))

/-- asl(v) of R215: the result and the new P. -/
def aslCore (v p : Byte) : Byte × Byte :=
  let r := v <<< 1
  (r, setNZ r (setFlag .c (v.getLsbD 7) p))

/-- lsr(v) of R215. -/
def lsrCore (v p : Byte) : Byte × Byte :=
  let r := v >>> 1
  (r, setNZ r (setFlag .c (v.getLsbD 0) p))

/-- rol(v) of R215: the carry before the instruction enters bit 0. -/
def rolCore (v p : Byte) : Byte × Byte :=
  let r := (v <<< 1) ||| (if getFlag .c p then 0x01 else 0x00)
  (r, setNZ r (setFlag .c (v.getLsbD 7) p))

/-- ror(v) of R215: the carry before the instruction enters bit 7. -/
def rorCore (v p : Byte) : Byte × Byte :=
  let r := (v >>> 1) ||| (if getFlag .c p then 0x80 else 0x00)
  (r, setNZ r (setFlag .c (v.getLsbD 0) p))

/-- ANC's result and flags (R289): C = N = bit 7 of the result. -/
def ancCore (a m p : Byte) : Byte × Byte :=
  let r := a &&& m
  (r, setFlag .c (r.getLsbD 7) (setNZ r p))

/-- ARR's result and flags (R291): C = bit 6 and V = bit 6 xor bit 5 of the result. -/
def arrCore (a m p : Byte) : Byte × Byte :=
  let t := a &&& m
  let r := (t >>> 1) ||| (if getFlag .c p then 0x80 else 0x00)
  (r, setFlag .v (r.getLsbD 6 ^^ r.getLsbD 5) (setFlag .c (r.getLsbD 6) (setNZ r p)))

/-- SBX's result and flags (R292): no borrow in, C as an unsigned comparison. -/
def sbxCore (a x m p : Byte) : Byte × Byte :=
  let t := a &&& x
  let r := t - m
  (r, setNZ r (setFlag .c (decide (m ≤ t)) p))

end Sys2Proof.Machine
end

