-- ==== Sys2Proof/Machine/Memory.lean ====
section
/-! DEFINITION. The backing store: what an unlisted cell reads as, one read and one write of a cell, the canonical
form, and the two memory maps (20_memory.md section 3). -/

namespace Sys2Proof.Machine

/-- What a cell that nothing has written reads as (R78, D17). DESIGN CHOICE, unsafe under zero (log entry 2). -/
def Memory.unlisted (init : MemInit) (k : Nat) : Byte :=
  match init with
  | .zero => 0x00
  | .free => Config.freeMemByte k

/-- The byte of cell k: the one most recently written, or MEM_INIT (R66). -/
def Memory.read (init : MemInit) : Memory → Nat → Byte
  | [], k => Memory.unlisted init k
  | (j, v) :: m, k => if j = k then v else Memory.read init m k

/-- m without what it says of cell k. -/
def Memory.eraseCell (m : Memory) (k : Nat) : Memory := m.filter fun c => c.1 != k

/-- m with an entry for cell k, in front of the first entry of a higher cell. -/
def Memory.insertCell : Memory → Nat → Byte → Memory
  | [], k, v => [(k, v)]
  | (j, u) :: m, k, v => if k < j then (k, v) :: (j, u) :: m else (j, u) :: Memory.insertCell m k v

/-- Writes byte v to cell k and keeps the canonical form: what an unlisted cell reads as is not listed. -/
def Memory.write (init : MemInit) (m : Memory) (k : Nat) (v : Byte) : Memory :=
  if v = Memory.unlisted init k then Memory.eraseCell m k
  else Memory.insertCell (Memory.eraseCell m k) k v

/-- Every entry lies in cells lo to size - 1, the cell numbers strictly rise, and no entry says what an unlisted cell
reads as. -/
def Memory.wfFrom (init : MemInit) (size : Nat) : Nat → Memory → Bool
  | _, [] => true
  | lo, (k, v) :: m =>
    decide (lo ≤ k) && decide (k < size) && (v != Memory.unlisted init k) && Memory.wfFrom init size (k + 1) m

/-- The canonical form of a backing store of the given size. -/
def Memory.wf (init : MemInit) (size : Nat) (m : Memory) : Bool := Memory.wfFrom init size 0 m

/-- Where a bus access goes. -/
inductive Route where
  /-- To a cell of the backing store. -/
  | ram (cell : Nat)
  /-- To the external collaborator (R66). -/
  | peripheral
  /-- Nowhere: reads give 0x00, writes are discarded (R68, R79). -/
  | unbacked
deriving DecidableEq, Repr

/-- The number of bytes behind a map: 64 KiB (R67), or a 2048-byte buffer (R68). -/
def storeSize : MemMap → Nat
  | .flat => 65536
  | .nesStore => 2048

/-- The address map: R67 for flat, the table of R68 for nes_store. PRESUMED window bases, unsafe (D36, log entry 7). -/
def routeOf (map : MemMap) (addr : Word) : Route :=
  match map with
  | .flat => .ram addr.toNat
  | .nesStore =>
    if addr < 0x2000 then .ram (addr &&& 0x07FF).toNat
    else if addr < 0x4000 then .peripheral
    else .unbacked

/-- How many free draws a list of accesses uses up: one for each read of the peripheral window (R66). -/
def drawsOf (map : MemMap) (acc : List BusEvent) : Nat :=
  acc.countP fun e => e.kind == .read && routeOf map e.address == .peripheral

end Sys2Proof.Machine
end

