-- ==== Sys2Proof/Machine/Ops.lean ====
section
/-! DEFINITION. The named operations every meaning is written with: register updates, the bus (R60 to R68), the
stack (R70, R71), the end of a step in HALTED or FAULTED (R133, R141), the PC sequencer (R138, R140), the engine
around a handler (R134 to R139, R147), and the fetch of an instruction's bytes (R132, R90). -/

namespace Sys2Proof.Machine

/-! ### Register file -/

def State.setA (s : State) (v : Byte) : State := { s with a := v }
def State.setX (s : State) (v : Byte) : State := { s with x := v }
def State.setY (s : State) (v : Byte) : State := { s with y := v }
def State.setSp (s : State) (v : Byte) : State := { s with sp := v }
def State.setP (s : State) (v : Byte) : State := { s with p := v }
def State.setPc (s : State) (v : Word) : State := { s with pc := v }

/-- `setNZ(v)` on the machine's P (R40). -/
def State.setNZ (s : State) (v : Byte) : State := s.setP (Machine.setNZ v s.p)

/-- One flag of the machine's P set or cleared (R36). -/
def State.setFlag (s : State) (f : Flag) (on : Bool) : State := s.setP (Machine.setFlag f on s.p)

/-! ### The bus -/

/-- The byte a bus read of addr answers now (R62, R66 to R68). -/
def State.read (s : State) (addr : Word) : Byte :=
  match routeOf s.cfg.memMap addr with
  | .ram k => s.mem.read s.cfg.memInit k
  | .peripheral => Config.periphRead s.draws
  | .unbacked => 0x00

/-- The machine after a bus read of addr: the access is recorded (R61), and a read of the peripheral window uses up
one free draw (R66). `MemRead(addr, 1)` of R14 is State.read together with State.afterRead. -/
def State.afterRead (s : State) (addr : Word) : State :=
  { s with
    bus := s.bus ++ [⟨.read, addr, s.read addr⟩]
    draws := if routeOf s.cfg.memMap addr = .peripheral then s.draws + 1 else s.draws }

/-- `MemWrite(addr, 1, v)` of R14: the access is recorded (R61). Under nes_store a write to the peripheral window is
delivered to the collaborator, which is the recorded access itself (D16, log entry 6), and a write to an unbacked address is
discarded (R68). -/
def State.write (s : State) (addr : Word) (v : Byte) : State :=
  { s with
    bus := s.bus ++ [⟨.write, addr, v⟩]
    mem := match routeOf s.cfg.memMap addr with
      | .ram k => s.mem.write s.cfg.memInit k v
      | .peripheral => s.mem
      | .unbacked => s.mem }

/-- The byte that an address holds without any access being made: none in the peripheral window, where no byte is
held and each read is answered afresh. -/
def State.peek (s : State) (addr : Word) : Option Byte :=
  match routeOf s.cfg.memMap addr with
  | .ram k => some (s.mem.read s.cfg.memInit k)
  | .peripheral => none
  | .unbacked => some 0x00

/-! ### The stack -/

/-- `STACK_BASE | SP` with STACK_BASE = 0x0100 (R34, R72). -/
def stackAddr (sp : Byte) : Word := 0x0100 ||| zext16 sp

/-- `push(v)`: writes, then decrements SP within the page (R70). -/
def State.push (s : State) (v : Byte) : State := (s.write (stackAddr s.sp) v).setSp (s.sp - 1)

/-- The byte `pop()` returns: the one at the incremented SP (R71). -/
def State.popVal (s : State) : Byte := s.read (stackAddr (s.sp + 1))

/-- The machine after `pop()`: SP is incremented within the page, then the byte is read (R71). -/
def State.afterPop (s : State) : State := (s.setSp (s.sp + 1)).afterRead (stackAddr (s.sp + 1))

/-! ### The end of a step in HALTED or FAULTED -/

/-- The halt of R133 and R264: PC keeps pc1, no handler, no bus access, no cost. -/
def State.halt (s : State) : State := { s with run := .halted, cost := none }

/-- `raise Fault(reason, info)` (R15, R141): FAULTED with the record, PC and everything else as they are, no cost. -/
def State.raiseFault (s : State) (reason : FaultReason) (opcode : Byte) (address : Word) : State :=
  { s with run := .faulted, faultRec := some ⟨reason, opcode, address⟩, cost := none }

/-! ### EXECUTE and ADVANCE -/

/-- What a handler ends with (R136, R137). -/
inductive Effect where
  /-- It did not write PC: pc_written is 0. -/
  | done (s : State)
  /-- It wrote target to PC: pc_written is 1. -/
  | jump (target : Word) (s : State)
  /-- It raised a fault (R120). -/
  | raise (reason : FaultReason) (s : State)
deriving DecidableEq, Repr

/-- The program counter sequencer (R138, R140): the next PC from pc1, the entry's length, and what the handler wrote
to PC, if anything. -/
def nextPc (policy : AdvancePolicy) (pc1 : Word) (len : Nat) (target : Option Word) : Word :=
  match policy, target with
  | .written, some t => t
  | .written, none => pc1 + BitVec.ofNat 16 (len - 1)
  | .compare, t => if t.getD pc1 = pc1 then pc1 + BitVec.ofNat 16 (len - 1) else t.getD pc1

/-- The end of EXECUTE and ADVANCE for an entry, at the state s in which EXECUTE began (PC = pc1): the next PC and the
cost (R138, R139), or the fault (R141). -/
def State.finish (s : State) (e : Entry) : Effect → State
  | .done t => { t with pc := nextPc s.cfg.advancePolicy s.pc e.len none, cost := some e.cycles }
  | .jump w t => { t with pc := nextPc s.cfg.advancePolicy s.pc e.len (some w), cost := some e.cycles }
  | .raise r t => t.raiseFault r e.opcode (s.pc - 1)

/-- DECODE from the refusal check on, EXECUTE and ADVANCE (R134 to R139, R147), in the order of R324, for an
instruction with its handler, at the state after the fetch (PC = pc1). -/
def State.enter (s : State) (i : Instr) (handler : State → Effect) : Host.Outcome State Fault Refusal :=
  if i.entry.cls ≠ .official ∧ s.cfg.undocPolicy = .refuse then
    .refused (.undocumentedRefused i.entry.opcode (s.pc - 1))
  else if i.entry.cls = .unmapped ∧ s.cfg.strictDecode = true then
    .next (s.raiseFault .unmappedOpcode i.entry.opcode (s.pc - 1))
  else
    .next (s.finish i.entry (handler s))

/-! ### FETCH -/

/-- The next instruction, read through the bus at PC: the opcode byte (R132), then the operand bytes of its form, in
order (R74, R90). -/
def State.fetchInstr (s : State) : Instr :=
  let op := s.read s.pc
  let s1 := s.afterRead s.pc
  let l := if 2 ≤ (entryOf op).len then s1.read (s.pc + 1) else 0x00
  let s2 := if 2 ≤ (entryOf op).len then s1.afterRead (s.pc + 1) else s1
  let h := if 3 ≤ (entryOf op).len then s2.read (s.pc + 2) else 0x00
  buildInstr op l h

/-- The machine after that fetch: PC = pc1, the address just past the opcode (R132). -/
def State.afterFetch (s : State) : State :=
  let op := s.read s.pc
  let s1 := s.afterRead s.pc
  let s2 := if 2 ≤ (entryOf op).len then s1.afterRead (s.pc + 1) else s1
  let s3 := if 3 ≤ (entryOf op).len then s2.afterRead (s.pc + 2) else s2
  s3.setPc (s.pc + 1)

/-- Puts bytes into memory from addr on, not through the core: no bus access is recorded. -/
def State.placeBytes (s : State) (addr : Word) : List Byte → State
  | [] => s
  | b :: bs =>
    let t := match routeOf s.cfg.memMap addr with
      | .ram k => { s with mem := s.mem.write s.cfg.memInit k b }
      | .peripheral => s
      | .unbacked => s
    t.placeBytes (addr + 1) bs

/-- Whether an address is backed by memory. -/
def State.backed (s : State) (addr : Word) : Bool :=
  match routeOf s.cfg.memMap addr with
  | .ram _ => true
  | .peripheral => false
  | .unbacked => false

/-- s made READY, with PC moved to 0 if one of the three addresses from PC on is not backed by memory. -/
def State.placeable (s : State) : State :=
  { s with
    run := .ready
    faultRec := none
    pc := if s.backed s.pc && s.backed (s.pc + 1) && s.backed (s.pc + 2) then s.pc else 0x0000 }

/-- The bus record and the cost output begin anew with a step (R48, R131). DESIGN CHOICE, safe (log entry 11). -/
def State.beginStep (s : State) : State := { s with bus := [], cost := none }

end Sys2Proof.Machine
end

