-- ==== Sys2Proof/Machine/Operands.lean ====
section
/-! DEFINITION. The addressing-mode resolver (30_encoding.md section 5, R110 to R120) and the operand reads and
writes of handlers built on it. An operand carries its mode tag and the operand bytes, which the fetch has read at
pc1 and pc1 + 1 already, in the same order as the resolver reads them in the spec (log entry 4). -/

namespace Sys2Proof.Machine

/-- An operand: one constructor per mode tag of R100, with the operand bytes of its form. -/
inductive Operand where
  | imm (d : Byte) | zp (a : Byte) | zpx (a : Byte) | zpy (a : Byte) | abs (w : Word) | absx (w : Word)
  | absy (w : Word) | indx (a : Byte) | indy (a : Byte) | implied
deriving DecidableEq, Repr

/-- The mode tag of an operand (R100). -/
def Operand.mode : Operand → Mode
  | .imm _ => .immediate | .zp _ => .zeroPage | .zpx _ => .zeroPageX | .zpy _ => .zeroPageY
  | .abs _ => .absolute | .absx _ => .absoluteX | .absy _ => .absoluteY
  | .indx _ => .indirectX | .indy _ => .indirectY | .implied => .implied

/-- The 16-bit pointer read within page 0 of R118 and R119: low byte at ptr, high byte at ptr + 1 modulo 256. -/
def State.readZpPtr (s : State) (ptr : Byte) : Word :=
  word16 ((s.afterRead (zext16 ptr)).read (zext16 (ptr + 1))) (s.read (zext16 ptr))

/-- The machine after that pointer read. -/
def State.afterZpPtr (s : State) (ptr : Byte) : State :=
  (s.afterRead (zext16 ptr)).afterRead (zext16 (ptr + 1))

/-- The effective address (R111 to R119). An Implied operand has none: State.withEa raises the fault of R120 before
this is used. -/
def State.ea (s : State) : Operand → Word
  | .imm _ => s.pc
  | .zp a => zext16 a
  | .zpx a => zext16 (a + s.x)
  | .zpy a => zext16 (a + s.y)
  | .abs w => w
  | .absx w => w + zext16 s.x
  | .absy w => w + zext16 s.y
  | .indx a => s.readZpPtr (a + s.x)
  | .indy a => s.readZpPtr a + zext16 s.y
  | .implied => s.pc

/-- The machine after the resolver: the pointer reads of the two indirect modes have been made (R118, R119). -/
def State.afterEa (s : State) : Operand → State
  | .indx a => s.afterZpPtr (a + s.x)
  | .indy a => s.afterZpPtr a
  | .imm _ | .zp _ | .zpx _ | .zpy _ | .abs _ | .absx _ | .absy _ | .implied => s

/-- A handler's call of `resolve(mode)` (R110): it goes on with the effective address, or ends in the fault of R120. -/
def State.withEa (s : State) (o : Operand) (k : Word → State → Effect) : Effect :=
  if o.mode = .implied then .raise .impliedResolve s else k (s.ea o) (s.afterEa o)

/-- The operand byte M = MemRead(ea, 1). In Immediate mode ea is pc1 (R111), the byte the fetch has read. -/
def State.operandVal (s : State) (o : Operand) : Byte :=
  match o with
  | .imm d => d
  | o => (s.afterEa o).read (s.ea o)

/-- The machine after the resolver and the read of M. -/
def State.afterOperand (s : State) (o : Operand) : State :=
  match o with
  | .imm _ => s
  | o => (s.afterEa o).afterRead (s.ea o)

/-- A handler that resolves and reads M once (R16). -/
def State.withM (s : State) (o : Operand) (k : Byte → State → Effect) : Effect :=
  s.withEa o fun _ _ => k (s.operandVal o) (s.afterOperand o)

/-- A handler that resolves and writes v to ea once (R163). -/
def State.storing (s : State) (o : Operand) (v : Byte) : Effect :=
  s.withEa o fun ea t => .done (t.write ea v)

/-- A read-modify-write handler: one read of ea, then one write of it, no dummy write (R74, R220); r and the
continuation get the byte read. -/
def State.modifying (s : State) (o : Operand) (r : Byte → Byte) (k : Byte → State → State) : Effect :=
  s.withM o fun v t => .done (k v (t.write (s.ea o) (r v)))

/-- The register the mode adds to a base address (46_undocumented.md section 5): Y for abs,Y and (zp),Y, X for abs,X. -/
def State.indexOf (s : State) : Operand → Byte
  | .absx _ | .zpx _ => s.x
  | .absy _ | .indy _ | .zpy _ => s.y
  | .imm _ | .zp _ | .abs _ | .indx _ | .implied => 0x00

/-- `H +8 1` of R297 to R300: H is the high byte of the base address before indexing. -/
def State.baseHighPlusOne (s : State) (o : Operand) : Byte :=
  hi8 (s.ea o - zext16 (s.indexOf o)) + 1

end Sys2Proof.Machine
end

