-- ==== Sys2Proof/Machine/Arithmetic.lean ====
section
/-! DEFINITION. Arithmetic, compare, increment and decrement (42_arithmetic_compare.md): the handlers, then the
meaning of each opcode. -/

namespace Sys2Proof.Machine

/-- `adc_core(m)` on the machine's A and P (R180). -/
def State.addToA (t : State) (m : Byte) : State :=
  (t.setA (adcCore t.a m t.p).1).setP (adcCore t.a m t.p).2

/-- SBC with operand m (R184), per SBC_FORM. -/
def State.subFromA (t : State) (m : Byte) : State := t.addToA (sbcOperand t.cfg.sbcForm m)

/-- ADC (R183). -/
def handleAdc (o : Operand) (s : State) : Effect := s.withM o fun m t => .done (t.addToA m)

/-- SBC (R184). -/
def handleSbc (o : Operand) (s : State) : Effect := s.withM o fun m t => .done (t.subFromA m)

/-- CMP (R186). -/
def handleCmp (o : Operand) (s : State) : Effect := s.withM o fun m t => .done (t.setP (cmpCore t.a m t.p))

/-- CPX (R187). -/
def handleCpx (o : Operand) (s : State) : Effect := s.withM o fun m t => .done (t.setP (cmpCore t.x m t.p))

/-- CPY (R188). -/
def handleCpy (o : Operand) (s : State) : Effect := s.withM o fun m t => .done (t.setP (cmpCore t.y m t.p))

/-- INC (R189). -/
def handleInc (o : Operand) (s : State) : Effect := s.modifying o (fun v => v + 1) fun v t => t.setNZ (v + 1)

/-- DEC (R190). -/
def handleDec (o : Operand) (s : State) : Effect := s.modifying o (fun v => v - 1) fun v t => t.setNZ (v - 1)

/-- INX (R191). -/
def handleInx (s : State) : Effect := .done ((s.setX (s.x + 1)).setNZ (s.x + 1))

/-- INY (R192). -/
def handleIny (s : State) : Effect := .done ((s.setY (s.y + 1)).setNZ (s.y + 1))

/-- DEX (R193). -/
def handleDex (s : State) : Effect := .done ((s.setX (s.x - 1)).setNZ (s.x - 1))

/-- DEY (R194). -/
def handleDey (s : State) : Effect := .done ((s.setY (s.y - 1)).setNZ (s.y - 1))

/-- R183, 0x61: ADC ($nn,X). -/
def execAdcIndx (a : Byte) (s : State) : Host.Outcome State Fault Refusal :=
  s.enter (.adcIndx a) (handleAdc (.indx a))

/-- R183, 0x65: ADC $nn. -/
def execAdcZp (a : Byte) (s : State) : Host.Outcome State Fault Refusal :=
  s.enter (.adcZp a) (handleAdc (.zp a))

/-- R183, 0x69: ADC #$nn. -/
def execAdcImm (d : Byte) (s : State) : Host.Outcome State Fault Refusal :=
  s.enter (.adcImm d) (handleAdc (.imm d))

/-- R183, 0x6D: ADC $nnnn. -/
def execAdcAbs (w : Word) (s : State) : Host.Outcome State Fault Refusal :=
  s.enter (.adcAbs w) (handleAdc (.abs w))

/-- R183, 0x71: ADC ($nn),Y. -/
def execAdcIndy (a : Byte) (s : State) : Host.Outcome State Fault Refusal :=
  s.enter (.adcIndy a) (handleAdc (.indy a))

/-- R183, 0x75: ADC $nn,X. -/
def execAdcZpx (a : Byte) (s : State) : Host.Outcome State Fault Refusal :=
  s.enter (.adcZpx a) (handleAdc (.zpx a))

/-- R183, 0x79: ADC $nnnn,Y. -/
def execAdcAbsy (w : Word) (s : State) : Host.Outcome State Fault Refusal :=
  s.enter (.adcAbsy w) (handleAdc (.absy w))

/-- R183, 0x7D: ADC $nnnn,X. -/
def execAdcAbsx (w : Word) (s : State) : Host.Outcome State Fault Refusal :=
  s.enter (.adcAbsx w) (handleAdc (.absx w))

/-- R194, 0x88: DEY. -/
def execDey (s : State) : Host.Outcome State Fault Refusal :=
  s.enter .dey handleDey

/-- R188, 0xC0: CPY #$nn. -/
def execCpyImm (d : Byte) (s : State) : Host.Outcome State Fault Refusal :=
  s.enter (.cpyImm d) (handleCpy (.imm d))

/-- R186, 0xC1: CMP ($nn,X). -/
def execCmpIndx (a : Byte) (s : State) : Host.Outcome State Fault Refusal :=
  s.enter (.cmpIndx a) (handleCmp (.indx a))

/-- R188, 0xC4: CPY $nn. -/
def execCpyZp (a : Byte) (s : State) : Host.Outcome State Fault Refusal :=
  s.enter (.cpyZp a) (handleCpy (.zp a))

/-- R186, 0xC5: CMP $nn. -/
def execCmpZp (a : Byte) (s : State) : Host.Outcome State Fault Refusal :=
  s.enter (.cmpZp a) (handleCmp (.zp a))

/-- R190, 0xC6: DEC $nn. -/
def execDecZp (a : Byte) (s : State) : Host.Outcome State Fault Refusal :=
  s.enter (.decZp a) (handleDec (.zp a))

/-- R192, 0xC8: INY. -/
def execIny (s : State) : Host.Outcome State Fault Refusal :=
  s.enter .iny handleIny

/-- R186, 0xC9: CMP #$nn. -/
def execCmpImm (d : Byte) (s : State) : Host.Outcome State Fault Refusal :=
  s.enter (.cmpImm d) (handleCmp (.imm d))

/-- R193, 0xCA: DEX. -/
def execDex (s : State) : Host.Outcome State Fault Refusal :=
  s.enter .dex handleDex

/-- R188, 0xCC: CPY $nnnn. -/
def execCpyAbs (w : Word) (s : State) : Host.Outcome State Fault Refusal :=
  s.enter (.cpyAbs w) (handleCpy (.abs w))

/-- R186, 0xCD: CMP $nnnn. -/
def execCmpAbs (w : Word) (s : State) : Host.Outcome State Fault Refusal :=
  s.enter (.cmpAbs w) (handleCmp (.abs w))

/-- R190, 0xCE: DEC $nnnn. -/
def execDecAbs (w : Word) (s : State) : Host.Outcome State Fault Refusal :=
  s.enter (.decAbs w) (handleDec (.abs w))

/-- R186, 0xD1: CMP ($nn),Y. -/
def execCmpIndy (a : Byte) (s : State) : Host.Outcome State Fault Refusal :=
  s.enter (.cmpIndy a) (handleCmp (.indy a))

/-- R186, 0xD5: CMP $nn,X. -/
def execCmpZpx (a : Byte) (s : State) : Host.Outcome State Fault Refusal :=
  s.enter (.cmpZpx a) (handleCmp (.zpx a))

/-- R190, 0xD6: DEC $nn,X. -/
def execDecZpx (a : Byte) (s : State) : Host.Outcome State Fault Refusal :=
  s.enter (.decZpx a) (handleDec (.zpx a))

/-- R186, 0xD9: CMP $nnnn,Y. -/
def execCmpAbsy (w : Word) (s : State) : Host.Outcome State Fault Refusal :=
  s.enter (.cmpAbsy w) (handleCmp (.absy w))

/-- R186, 0xDD: CMP $nnnn,X. -/
def execCmpAbsx (w : Word) (s : State) : Host.Outcome State Fault Refusal :=
  s.enter (.cmpAbsx w) (handleCmp (.absx w))

/-- R190, 0xDE: DEC $nnnn,X. -/
def execDecAbsx (w : Word) (s : State) : Host.Outcome State Fault Refusal :=
  s.enter (.decAbsx w) (handleDec (.absx w))

/-- R187, 0xE0: CPX #$nn. -/
def execCpxImm (d : Byte) (s : State) : Host.Outcome State Fault Refusal :=
  s.enter (.cpxImm d) (handleCpx (.imm d))

/-- R184, 0xE1: SBC ($nn,X). -/
def execSbcIndx (a : Byte) (s : State) : Host.Outcome State Fault Refusal :=
  s.enter (.sbcIndx a) (handleSbc (.indx a))

/-- R187, 0xE4: CPX $nn. -/
def execCpxZp (a : Byte) (s : State) : Host.Outcome State Fault Refusal :=
  s.enter (.cpxZp a) (handleCpx (.zp a))

/-- R184, 0xE5: SBC $nn. -/
def execSbcZp (a : Byte) (s : State) : Host.Outcome State Fault Refusal :=
  s.enter (.sbcZp a) (handleSbc (.zp a))

/-- R189, 0xE6: INC $nn. -/
def execIncZp (a : Byte) (s : State) : Host.Outcome State Fault Refusal :=
  s.enter (.incZp a) (handleInc (.zp a))

/-- R191, 0xE8: INX. -/
def execInx (s : State) : Host.Outcome State Fault Refusal :=
  s.enter .inx handleInx

/-- R184, 0xE9: SBC #$nn. -/
def execSbcImm (d : Byte) (s : State) : Host.Outcome State Fault Refusal :=
  s.enter (.sbcImm d) (handleSbc (.imm d))

/-- R187, 0xEC: CPX $nnnn. -/
def execCpxAbs (w : Word) (s : State) : Host.Outcome State Fault Refusal :=
  s.enter (.cpxAbs w) (handleCpx (.abs w))

/-- R184, 0xED: SBC $nnnn. -/
def execSbcAbs (w : Word) (s : State) : Host.Outcome State Fault Refusal :=
  s.enter (.sbcAbs w) (handleSbc (.abs w))

/-- R189, 0xEE: INC $nnnn. -/
def execIncAbs (w : Word) (s : State) : Host.Outcome State Fault Refusal :=
  s.enter (.incAbs w) (handleInc (.abs w))

/-- R184, 0xF1: SBC ($nn),Y. -/
def execSbcIndy (a : Byte) (s : State) : Host.Outcome State Fault Refusal :=
  s.enter (.sbcIndy a) (handleSbc (.indy a))

/-- R184, 0xF5: SBC $nn,X. -/
def execSbcZpx (a : Byte) (s : State) : Host.Outcome State Fault Refusal :=
  s.enter (.sbcZpx a) (handleSbc (.zpx a))

/-- R189, 0xF6: INC $nn,X. -/
def execIncZpx (a : Byte) (s : State) : Host.Outcome State Fault Refusal :=
  s.enter (.incZpx a) (handleInc (.zpx a))

/-- R184, 0xF9: SBC $nnnn,Y. -/
def execSbcAbsy (w : Word) (s : State) : Host.Outcome State Fault Refusal :=
  s.enter (.sbcAbsy w) (handleSbc (.absy w))

/-- R184, 0xFD: SBC $nnnn,X. -/
def execSbcAbsx (w : Word) (s : State) : Host.Outcome State Fault Refusal :=
  s.enter (.sbcAbsx w) (handleSbc (.absx w))

/-- R189, 0xFE: INC $nnnn,X. -/
def execIncAbsx (w : Word) (s : State) : Host.Outcome State Fault Refusal :=
  s.enter (.incAbsx w) (handleInc (.absx w))

end Sys2Proof.Machine
end

