-- ==== Sys2Proof/Machine/Control.lean ====
section
/-! DEFINITION. Control transfer and the break (45_control_transfer.md): the handlers, then the meaning of each
opcode. PC is pc1 when a handler begins (R144). -/

namespace Sys2Proof.Machine

/-- JMP abs (R250). -/
def handleJmp (o : Operand) (s : State) : Effect := s.withEa o fun ea t => .jump ea t

/-- Where JMP (ind) finds the target's high byte: the low byte of the pointer is incremented within its page (R251). -/
def jmpIndHighAddr (ptr : Word) : Word := word16 (hi8 ptr) (lo8 ptr + 1)

/-- JMP (ind) (R251), with the page-wrap defect. -/
def handleJmpInd (ptr : Word) (s : State) : Effect :=
  let t := s.afterRead ptr
  .jump (word16 (t.read (jmpIndHighAddr ptr)) (s.read ptr)) (t.afterRead (jmpIndHighAddr ptr))

/-- JSR (R252): the target is the operand, read before the pushes; what is pushed is pc1 + 1, high byte first. -/
def handleJsr (o : Operand) (s : State) : Effect :=
  s.withEa o fun target t => .jump target ((t.push (hi8 (s.pc + 1))).push (lo8 (s.pc + 1)))

/-- RTS (R253). -/
def handleRts (s : State) : Effect :=
  .jump (word16 s.afterPop.popVal s.popVal + 1) s.afterPop.afterPop

/-- RTI, the return from an exception frame that software built (R254, R325): P, then PC low, then PC high. -/
def handleRti (s : State) : Effect :=
  let t := s.afterPop.setP (rtiImage s.popVal)
  .jump (word16 t.afterPop.popVal t.popVal) t.afterPop.afterPop

/-- `branch(cond)` of R255, the displacement byte d having been read by the fetch. -/
def branch (cond : Bool) (d : Byte) (s : State) : Effect :=
  if cond then .jump (s.pc + 1 + sext16 d) s else .done s

/-- BPL (R256). -/
def handleBpl (d : Byte) (s : State) : Effect := branch (!getFlag .n s.p) d s

/-- BMI (R257). -/
def handleBmi (d : Byte) (s : State) : Effect := branch (getFlag .n s.p) d s

/-- BVC (R258). -/
def handleBvc (d : Byte) (s : State) : Effect := branch (!getFlag .v s.p) d s

/-- BVS (R259). -/
def handleBvs (d : Byte) (s : State) : Effect := branch (getFlag .v s.p) d s

/-- BCC (R260). -/
def handleBcc (d : Byte) (s : State) : Effect := branch (!getFlag .c s.p) d s

/-- BCS (R261). -/
def handleBcs (d : Byte) (s : State) : Effect := branch (getFlag .c s.p) d s

/-- BNE (R262). -/
def handleBne (d : Byte) (s : State) : Effect := branch (!getFlag .z s.p) d s

/-- BEQ (R263). -/
def handleBeq (d : Byte) (s : State) : Effect := branch (getFlag .z s.p) d s

/-- R264, 0x00: BRK. -/
def execBrk (s : State) : Host.Outcome State Fault Refusal :=
  .next s.halt

/-- R256, 0x10: BPL label. -/
def execBplRel (d : Byte) (s : State) : Host.Outcome State Fault Refusal :=
  s.enter (.bplRel d) (handleBpl d)

/-- R252, 0x20: JSR $nnnn. -/
def execJsrAbs (w : Word) (s : State) : Host.Outcome State Fault Refusal :=
  s.enter (.jsrAbs w) (handleJsr (.abs w))

/-- R257, 0x30: BMI label. -/
def execBmiRel (d : Byte) (s : State) : Host.Outcome State Fault Refusal :=
  s.enter (.bmiRel d) (handleBmi d)

/-- R254, 0x40: RTI. -/
def execRti (s : State) : Host.Outcome State Fault Refusal :=
  s.enter .rti handleRti

/-- R250, 0x4C: JMP $nnnn. -/
def execJmpAbs (w : Word) (s : State) : Host.Outcome State Fault Refusal :=
  s.enter (.jmpAbs w) (handleJmp (.abs w))

/-- R258, 0x50: BVC label. -/
def execBvcRel (d : Byte) (s : State) : Host.Outcome State Fault Refusal :=
  s.enter (.bvcRel d) (handleBvc d)

/-- R253, 0x60: RTS. -/
def execRts (s : State) : Host.Outcome State Fault Refusal :=
  s.enter .rts handleRts

/-- R251, 0x6C: JMP ($nnnn). -/
def execJmpInd (w : Word) (s : State) : Host.Outcome State Fault Refusal :=
  s.enter (.jmpInd w) (handleJmpInd w)

/-- R259, 0x70: BVS label. -/
def execBvsRel (d : Byte) (s : State) : Host.Outcome State Fault Refusal :=
  s.enter (.bvsRel d) (handleBvs d)

/-- R260, 0x90: BCC label. -/
def execBccRel (d : Byte) (s : State) : Host.Outcome State Fault Refusal :=
  s.enter (.bccRel d) (handleBcc d)

/-- R261, 0xB0: BCS label. -/
def execBcsRel (d : Byte) (s : State) : Host.Outcome State Fault Refusal :=
  s.enter (.bcsRel d) (handleBcs d)

/-- R262, 0xD0: BNE label. -/
def execBneRel (d : Byte) (s : State) : Host.Outcome State Fault Refusal :=
  s.enter (.bneRel d) (handleBne d)

/-- R263, 0xF0: BEQ label. -/
def execBeqRel (d : Byte) (s : State) : Host.Outcome State Fault Refusal :=
  s.enter (.beqRel d) (handleBeq d)

end Sys2Proof.Machine
end

