-- ==== Sys2Proof/Machine/Stack.lean ====
section
/-! DEFINITION. Stack, flag and no-operation instructions (44_stack_flags_nop.md): the handlers, then the meaning of
each opcode. -/

namespace Sys2Proof.Machine

/-- PHA (R230). -/
def handlePha (s : State) : Effect := .done (s.push s.a)

/-- PHP (R231): the pushed copy has bits 4 and 5 set, P itself stays. -/
def handlePhp (s : State) : Effect := .done (s.push (pushImage s.p))

/-- PLA (R232). -/
def handlePla (s : State) : Effect := .done ((s.afterPop.setA s.popVal).setNZ s.popVal)

/-- PLP (R233), per PLP_POLICY. -/
def handlePlp (s : State) : Effect := .done (s.afterPop.setP (plpImage s.cfg.plpPolicy s.popVal))

/-- CLC (R234). -/
def handleClc (s : State) : Effect := .done (s.setFlag .c false)

/-- SEC (R235). -/
def handleSec (s : State) : Effect := .done (s.setFlag .c true)

/-- CLI (R236). -/
def handleCli (s : State) : Effect := .done (s.setFlag .i false)

/-- SEI (R237). -/
def handleSei (s : State) : Effect := .done (s.setFlag .i true)

/-- CLD (R238). -/
def handleCld (s : State) : Effect := .done (s.setFlag .d false)

/-- SED (R239). -/
def handleSed (s : State) : Effect := .done (s.setFlag .d true)

/-- CLV (R240). -/
def handleClv (s : State) : Effect := .done (s.setFlag .v false)

/-- The handler that accesses nothing and writes nothing: NOP (R241), the implied NOP variants (R301), and the
fallback entry (R104). -/
def handleNothing (s : State) : Effect := .done s

/-- R231, 0x08: PHP. -/
def execPhp (s : State) : Host.Outcome State Fault Refusal :=
  s.enter .php handlePhp

/-- R234, 0x18: CLC. -/
def execClc (s : State) : Host.Outcome State Fault Refusal :=
  s.enter .clc handleClc

/-- R233, 0x28: PLP. -/
def execPlp (s : State) : Host.Outcome State Fault Refusal :=
  s.enter .plp handlePlp

/-- R235, 0x38: SEC. -/
def execSec (s : State) : Host.Outcome State Fault Refusal :=
  s.enter .sec handleSec

/-- R230, 0x48: PHA. -/
def execPha (s : State) : Host.Outcome State Fault Refusal :=
  s.enter .pha handlePha

/-- R236, 0x58: CLI. -/
def execCli (s : State) : Host.Outcome State Fault Refusal :=
  s.enter .cli handleCli

/-- R232, 0x68: PLA. -/
def execPla (s : State) : Host.Outcome State Fault Refusal :=
  s.enter .pla handlePla

/-- R237, 0x78: SEI. -/
def execSei (s : State) : Host.Outcome State Fault Refusal :=
  s.enter .sei handleSei

/-- R240, 0xB8: CLV. -/
def execClv (s : State) : Host.Outcome State Fault Refusal :=
  s.enter .clv handleClv

/-- R238, 0xD8: CLD. -/
def execCld (s : State) : Host.Outcome State Fault Refusal :=
  s.enter .cld handleCld

/-- R241, 0xEA: NOP. -/
def execNop (s : State) : Host.Outcome State Fault Refusal :=
  s.enter .nop handleNothing

/-- R239, 0xF8: SED. -/
def execSed (s : State) : Host.Outcome State Fault Refusal :=
  s.enter .sed handleSed

end Sys2Proof.Machine
end

