-- ==== Sys2Proof/Machine/Fallback.lean ====
section
/-! DEFINITION. The 12 unmapped opcode values (R101): each resolves to the fallback entry, a no-operation of length 1
and cost 1 (R104); under STRICT_DECODE State.enter raises UnmappedOpcode in its place (R105, R135, R320). -/

namespace Sys2Proof.Machine

/-- R104, 0x02: unmapped value, the fallback entry. -/
def execJam02 (s : State) : Host.Outcome State Fault Refusal :=
  s.enter .jam02 handleNothing

/-- R104, 0x12: unmapped value, the fallback entry. -/
def execJam12 (s : State) : Host.Outcome State Fault Refusal :=
  s.enter .jam12 handleNothing

/-- R104, 0x22: unmapped value, the fallback entry. -/
def execJam22 (s : State) : Host.Outcome State Fault Refusal :=
  s.enter .jam22 handleNothing

/-- R104, 0x32: unmapped value, the fallback entry. -/
def execJam32 (s : State) : Host.Outcome State Fault Refusal :=
  s.enter .jam32 handleNothing

/-- R104, 0x42: unmapped value, the fallback entry. -/
def execJam42 (s : State) : Host.Outcome State Fault Refusal :=
  s.enter .jam42 handleNothing

/-- R104, 0x52: unmapped value, the fallback entry. -/
def execJam52 (s : State) : Host.Outcome State Fault Refusal :=
  s.enter .jam52 handleNothing

/-- R104, 0x62: unmapped value, the fallback entry. -/
def execJam62 (s : State) : Host.Outcome State Fault Refusal :=
  s.enter .jam62 handleNothing

/-- R104, 0x72: unmapped value, the fallback entry. -/
def execJam72 (s : State) : Host.Outcome State Fault Refusal :=
  s.enter .jam72 handleNothing

/-- R104, 0x92: unmapped value, the fallback entry. -/
def execJam92 (s : State) : Host.Outcome State Fault Refusal :=
  s.enter .jam92 handleNothing

/-- R104, 0xB2: unmapped value, the fallback entry. -/
def execJamB2 (s : State) : Host.Outcome State Fault Refusal :=
  s.enter .jamB2 handleNothing

/-- R104, 0xD2: unmapped value, the fallback entry. -/
def execJamD2 (s : State) : Host.Outcome State Fault Refusal :=
  s.enter .jamD2 handleNothing

/-- R104, 0xF2: unmapped value, the fallback entry. -/
def execJamF2 (s : State) : Host.Outcome State Fault Refusal :=
  s.enter .jamF2 handleNothing

end Sys2Proof.Machine
end

