-- ==== Sys2Proof/Machine/Logic.lean ====
section
/-! DEFINITION. Bitwise logic, BIT, shifts and rotates (43_logic_shift_bit.md): the handlers, then the meaning of
each opcode. -/

namespace Sys2Proof.Machine

/-- AND (R211). -/
def handleAnd (o : Operand) (s : State) : Effect :=
  s.withM o fun m t => .done ((t.setA (t.a &&& m)).setNZ (t.a &&& m))

/-- ORA (R212). -/
def handleOra (o : Operand) (s : State) : Effect :=
  s.withM o fun m t => .done ((t.setA (t.a ||| m)).setNZ (t.a ||| m))

/-- EOR (R213). -/
def handleEor (o : Operand) (s : State) : Effect :=
  s.withM o fun m t => .done ((t.setA (t.a ^^^ m)).setNZ (t.a ^^^ m))

/-- BIT (R214). -/
def handleBit (o : Operand) (s : State) : Effect := s.withM o fun m t => .done (t.setP (bitCore t.a m t.p))

/-- The accumulator form of ASL, LSR, ROL and ROR, with its core of R215 (R220). -/
def handleShiftA (core : Byte → Byte → Byte × Byte) (s : State) : Effect :=
  .done ((s.setA (core s.a s.p).1).setP (core s.a s.p).2)

/-- The memory form of ASL, LSR, ROL and ROR, with its core of R215 (R220). -/
def handleShiftM (core : Byte → Byte → Byte × Byte) (o : Operand) (s : State) : Effect :=
  s.modifying o (fun v => (core v s.p).1) fun v t => t.setP (core v s.p).2

/-- R212, 0x01: ORA ($nn,X). -/
def execOraIndx (a : Byte) (s : State) : Host.Outcome State Fault Refusal :=
  s.enter (.oraIndx a) (handleOra (.indx a))

/-- R212, 0x05: ORA $nn. -/
def execOraZp (a : Byte) (s : State) : Host.Outcome State Fault Refusal :=
  s.enter (.oraZp a) (handleOra (.zp a))

/-- R216, 0x06: ASL $nn. -/
def execAslZp (a : Byte) (s : State) : Host.Outcome State Fault Refusal :=
  s.enter (.aslZp a) (handleShiftM aslCore (.zp a))

/-- R212, 0x09: ORA #$nn. -/
def execOraImm (d : Byte) (s : State) : Host.Outcome State Fault Refusal :=
  s.enter (.oraImm d) (handleOra (.imm d))

/-- R216, 0x0A: ASL A. -/
def execAslAcc (s : State) : Host.Outcome State Fault Refusal :=
  s.enter .aslAcc (handleShiftA aslCore)

/-- R212, 0x0D: ORA $nnnn. -/
def execOraAbs (w : Word) (s : State) : Host.Outcome State Fault Refusal :=
  s.enter (.oraAbs w) (handleOra (.abs w))

/-- R216, 0x0E: ASL $nnnn. -/
def execAslAbs (w : Word) (s : State) : Host.Outcome State Fault Refusal :=
  s.enter (.aslAbs w) (handleShiftM aslCore (.abs w))

/-- R212, 0x11: ORA ($nn),Y. -/
def execOraIndy (a : Byte) (s : State) : Host.Outcome State Fault Refusal :=
  s.enter (.oraIndy a) (handleOra (.indy a))

/-- R212, 0x15: ORA $nn,X. -/
def execOraZpx (a : Byte) (s : State) : Host.Outcome State Fault Refusal :=
  s.enter (.oraZpx a) (handleOra (.zpx a))

/-- R216, 0x16: ASL $nn,X. -/
def execAslZpx (a : Byte) (s : State) : Host.Outcome State Fault Refusal :=
  s.enter (.aslZpx a) (handleShiftM aslCore (.zpx a))

/-- R212, 0x19: ORA $nnnn,Y. -/
def execOraAbsy (w : Word) (s : State) : Host.Outcome State Fault Refusal :=
  s.enter (.oraAbsy w) (handleOra (.absy w))

/-- R212, 0x1D: ORA $nnnn,X. -/
def execOraAbsx (w : Word) (s : State) : Host.Outcome State Fault Refusal :=
  s.enter (.oraAbsx w) (handleOra (.absx w))

/-- R216, 0x1E: ASL $nnnn,X. -/
def execAslAbsx (w : Word) (s : State) : Host.Outcome State Fault Refusal :=
  s.enter (.aslAbsx w) (handleShiftM aslCore (.absx w))

/-- R211, 0x21: AND ($nn,X). -/
def execAndIndx (a : Byte) (s : State) : Host.Outcome State Fault Refusal :=
  s.enter (.andIndx a) (handleAnd (.indx a))

/-- R214, 0x24: BIT $nn. -/
def execBitZp (a : Byte) (s : State) : Host.Outcome State Fault Refusal :=
  s.enter (.bitZp a) (handleBit (.zp a))

/-- R211, 0x25: AND $nn. -/
def execAndZp (a : Byte) (s : State) : Host.Outcome State Fault Refusal :=
  s.enter (.andZp a) (handleAnd (.zp a))

/-- R218, 0x26: ROL $nn. -/
def execRolZp (a : Byte) (s : State) : Host.Outcome State Fault Refusal :=
  s.enter (.rolZp a) (handleShiftM rolCore (.zp a))

/-- R211, 0x29: AND #$nn. -/
def execAndImm (d : Byte) (s : State) : Host.Outcome State Fault Refusal :=
  s.enter (.andImm d) (handleAnd (.imm d))

/-- R218, 0x2A: ROL A. -/
def execRolAcc (s : State) : Host.Outcome State Fault Refusal :=
  s.enter .rolAcc (handleShiftA rolCore)

/-- R214, 0x2C: BIT $nnnn. -/
def execBitAbs (w : Word) (s : State) : Host.Outcome State Fault Refusal :=
  s.enter (.bitAbs w) (handleBit (.abs w))

/-- R211, 0x2D: AND $nnnn. -/
def execAndAbs (w : Word) (s : State) : Host.Outcome State Fault Refusal :=
  s.enter (.andAbs w) (handleAnd (.abs w))

/-- R218, 0x2E: ROL $nnnn. -/
def execRolAbs (w : Word) (s : State) : Host.Outcome State Fault Refusal :=
  s.enter (.rolAbs w) (handleShiftM rolCore (.abs w))

/-- R211, 0x31: AND ($nn),Y. -/
def execAndIndy (a : Byte) (s : State) : Host.Outcome State Fault Refusal :=
  s.enter (.andIndy a) (handleAnd (.indy a))

/-- R211, 0x35: AND $nn,X. -/
def execAndZpx (a : Byte) (s : State) : Host.Outcome State Fault Refusal :=
  s.enter (.andZpx a) (handleAnd (.zpx a))

/-- R218, 0x36: ROL $nn,X. -/
def execRolZpx (a : Byte) (s : State) : Host.Outcome State Fault Refusal :=
  s.enter (.rolZpx a) (handleShiftM rolCore (.zpx a))

/-- R211, 0x39: AND $nnnn,Y. -/
def execAndAbsy (w : Word) (s : State) : Host.Outcome State Fault Refusal :=
  s.enter (.andAbsy w) (handleAnd (.absy w))

/-- R211, 0x3D: AND $nnnn,X. -/
def execAndAbsx (w : Word) (s : State) : Host.Outcome State Fault Refusal :=
  s.enter (.andAbsx w) (handleAnd (.absx w))

/-- R218, 0x3E: ROL $nnnn,X. -/
def execRolAbsx (w : Word) (s : State) : Host.Outcome State Fault Refusal :=
  s.enter (.rolAbsx w) (handleShiftM rolCore (.absx w))

/-- R213, 0x41: EOR ($nn,X). -/
def execEorIndx (a : Byte) (s : State) : Host.Outcome State Fault Refusal :=
  s.enter (.eorIndx a) (handleEor (.indx a))

/-- R213, 0x45: EOR $nn. -/
def execEorZp (a : Byte) (s : State) : Host.Outcome State Fault Refusal :=
  s.enter (.eorZp a) (handleEor (.zp a))

/-- R217, 0x46: LSR $nn. -/
def execLsrZp (a : Byte) (s : State) : Host.Outcome State Fault Refusal :=
  s.enter (.lsrZp a) (handleShiftM lsrCore (.zp a))

/-- R213, 0x49: EOR #$nn. -/
def execEorImm (d : Byte) (s : State) : Host.Outcome State Fault Refusal :=
  s.enter (.eorImm d) (handleEor (.imm d))

/-- R217, 0x4A: LSR A. -/
def execLsrAcc (s : State) : Host.Outcome State Fault Refusal :=
  s.enter .lsrAcc (handleShiftA lsrCore)

/-- R213, 0x4D: EOR $nnnn. -/
def execEorAbs (w : Word) (s : State) : Host.Outcome State Fault Refusal :=
  s.enter (.eorAbs w) (handleEor (.abs w))

/-- R217, 0x4E: LSR $nnnn. -/
def execLsrAbs (w : Word) (s : State) : Host.Outcome State Fault Refusal :=
  s.enter (.lsrAbs w) (handleShiftM lsrCore (.abs w))

/-- R213, 0x51: EOR ($nn),Y. -/
def execEorIndy (a : Byte) (s : State) : Host.Outcome State Fault Refusal :=
  s.enter (.eorIndy a) (handleEor (.indy a))

/-- R213, 0x55: EOR $nn,X. -/
def execEorZpx (a : Byte) (s : State) : Host.Outcome State Fault Refusal :=
  s.enter (.eorZpx a) (handleEor (.zpx a))

/-- R217, 0x56: LSR $nn,X. -/
def execLsrZpx (a : Byte) (s : State) : Host.Outcome State Fault Refusal :=
  s.enter (.lsrZpx a) (handleShiftM lsrCore (.zpx a))

/-- R213, 0x59: EOR $nnnn,Y. -/
def execEorAbsy (w : Word) (s : State) : Host.Outcome State Fault Refusal :=
  s.enter (.eorAbsy w) (handleEor (.absy w))

/-- R213, 0x5D: EOR $nnnn,X. -/
def execEorAbsx (w : Word) (s : State) : Host.Outcome State Fault Refusal :=
  s.enter (.eorAbsx w) (handleEor (.absx w))

/-- R217, 0x5E: LSR $nnnn,X. -/
def execLsrAbsx (w : Word) (s : State) : Host.Outcome State Fault Refusal :=
  s.enter (.lsrAbsx w) (handleShiftM lsrCore (.absx w))

/-- R219, 0x66: ROR $nn. -/
def execRorZp (a : Byte) (s : State) : Host.Outcome State Fault Refusal :=
  s.enter (.rorZp a) (handleShiftM rorCore (.zp a))

/-- R219, 0x6A: ROR A. -/
def execRorAcc (s : State) : Host.Outcome State Fault Refusal :=
  s.enter .rorAcc (handleShiftA rorCore)

/-- R219, 0x6E: ROR $nnnn. -/
def execRorAbs (w : Word) (s : State) : Host.Outcome State Fault Refusal :=
  s.enter (.rorAbs w) (handleShiftM rorCore (.abs w))

/-- R219, 0x76: ROR $nn,X. -/
def execRorZpx (a : Byte) (s : State) : Host.Outcome State Fault Refusal :=
  s.enter (.rorZpx a) (handleShiftM rorCore (.zpx a))

/-- R219, 0x7E: ROR $nnnn,X. -/
def execRorAbsx (w : Word) (s : State) : Host.Outcome State Fault Refusal :=
  s.enter (.rorAbsx w) (handleShiftM rorCore (.absx w))

end Sys2Proof.Machine
end

