-- ==== Sys2Proof/Machine/Transfer.lean ====
section
/-! DEFINITION. Loads, stores and register transfers (41_load_store_transfer.md): first the handler of each
instruction rule, then the meaning of each opcode, which is its handler run by the engine (State.enter). -/

namespace Sys2Proof.Machine

/-- LDA (R160). -/
def handleLda (o : Operand) (s : State) : Effect := s.withM o fun m t => .done ((t.setA m).setNZ m)

/-- LDX (R161). -/
def handleLdx (o : Operand) (s : State) : Effect := s.withM o fun m t => .done ((t.setX m).setNZ m)

/-- LDY (R162). -/
def handleLdy (o : Operand) (s : State) : Effect := s.withM o fun m t => .done ((t.setY m).setNZ m)

/-- STA (R163). -/
def handleSta (o : Operand) (s : State) : Effect := s.storing o s.a

/-- STX (R164). -/
def handleStx (o : Operand) (s : State) : Effect := s.storing o s.x

/-- STY (R165). -/
def handleSty (o : Operand) (s : State) : Effect := s.storing o s.y

/-- TAX (R166). -/
def handleTax (s : State) : Effect := .done ((s.setX s.a).setNZ s.a)

/-- TAY (R167). -/
def handleTay (s : State) : Effect := .done ((s.setY s.a).setNZ s.a)

/-- TXA (R168). -/
def handleTxa (s : State) : Effect := .done ((s.setA s.x).setNZ s.x)

/-- TYA (R169). -/
def handleTya (s : State) : Effect := .done ((s.setA s.y).setNZ s.y)

/-- TSX (R170). -/
def handleTsx (s : State) : Effect := .done ((s.setX s.sp).setNZ s.sp)

/-- TXS (R171, conflict C5): no flag. -/
def handleTxs (s : State) : Effect := .done (s.setSp s.x)

/-- R163, 0x81: STA ($nn,X). -/
def execStaIndx (a : Byte) (s : State) : Host.Outcome State Fault Refusal :=
  s.enter (.staIndx a) (handleSta (.indx a))

/-- R165, 0x84: STY $nn. -/
def execStyZp (a : Byte) (s : State) : Host.Outcome State Fault Refusal :=
  s.enter (.styZp a) (handleSty (.zp a))

/-- R163, 0x85: STA $nn. -/
def execStaZp (a : Byte) (s : State) : Host.Outcome State Fault Refusal :=
  s.enter (.staZp a) (handleSta (.zp a))

/-- R164, 0x86: STX $nn. -/
def execStxZp (a : Byte) (s : State) : Host.Outcome State Fault Refusal :=
  s.enter (.stxZp a) (handleStx (.zp a))

/-- R168, 0x8A: TXA. -/
def execTxa (s : State) : Host.Outcome State Fault Refusal :=
  s.enter .txa handleTxa

/-- R165, 0x8C: STY $nnnn. -/
def execStyAbs (w : Word) (s : State) : Host.Outcome State Fault Refusal :=
  s.enter (.styAbs w) (handleSty (.abs w))

/-- R163, 0x8D: STA $nnnn. -/
def execStaAbs (w : Word) (s : State) : Host.Outcome State Fault Refusal :=
  s.enter (.staAbs w) (handleSta (.abs w))

/-- R164, 0x8E: STX $nnnn. -/
def execStxAbs (w : Word) (s : State) : Host.Outcome State Fault Refusal :=
  s.enter (.stxAbs w) (handleStx (.abs w))

/-- R163, 0x91: STA ($nn),Y. -/
def execStaIndy (a : Byte) (s : State) : Host.Outcome State Fault Refusal :=
  s.enter (.staIndy a) (handleSta (.indy a))

/-- R165, 0x94: STY $nn,X. -/
def execStyZpx (a : Byte) (s : State) : Host.Outcome State Fault Refusal :=
  s.enter (.styZpx a) (handleSty (.zpx a))

/-- R163, 0x95: STA $nn,X. -/
def execStaZpx (a : Byte) (s : State) : Host.Outcome State Fault Refusal :=
  s.enter (.staZpx a) (handleSta (.zpx a))

/-- R164, 0x96: STX $nn,Y. -/
def execStxZpy (a : Byte) (s : State) : Host.Outcome State Fault Refusal :=
  s.enter (.stxZpy a) (handleStx (.zpy a))

/-- R169, 0x98: TYA. -/
def execTya (s : State) : Host.Outcome State Fault Refusal :=
  s.enter .tya handleTya

/-- R163, 0x99: STA $nnnn,Y. -/
def execStaAbsy (w : Word) (s : State) : Host.Outcome State Fault Refusal :=
  s.enter (.staAbsy w) (handleSta (.absy w))

/-- R171, 0x9A: TXS. -/
def execTxs (s : State) : Host.Outcome State Fault Refusal :=
  s.enter .txs handleTxs

/-- R163, 0x9D: STA $nnnn,X. -/
def execStaAbsx (w : Word) (s : State) : Host.Outcome State Fault Refusal :=
  s.enter (.staAbsx w) (handleSta (.absx w))

/-- R162, 0xA0: LDY #$nn. -/
def execLdyImm (d : Byte) (s : State) : Host.Outcome State Fault Refusal :=
  s.enter (.ldyImm d) (handleLdy (.imm d))

/-- R160, 0xA1: LDA ($nn,X). -/
def execLdaIndx (a : Byte) (s : State) : Host.Outcome State Fault Refusal :=
  s.enter (.ldaIndx a) (handleLda (.indx a))

/-- R161, 0xA2: LDX #$nn. -/
def execLdxImm (d : Byte) (s : State) : Host.Outcome State Fault Refusal :=
  s.enter (.ldxImm d) (handleLdx (.imm d))

/-- R162, 0xA4: LDY $nn. -/
def execLdyZp (a : Byte) (s : State) : Host.Outcome State Fault Refusal :=
  s.enter (.ldyZp a) (handleLdy (.zp a))

/-- R160, 0xA5: LDA $nn. -/
def execLdaZp (a : Byte) (s : State) : Host.Outcome State Fault Refusal :=
  s.enter (.ldaZp a) (handleLda (.zp a))

/-- R161, 0xA6: LDX $nn. -/
def execLdxZp (a : Byte) (s : State) : Host.Outcome State Fault Refusal :=
  s.enter (.ldxZp a) (handleLdx (.zp a))

/-- R167, 0xA8: TAY. -/
def execTay (s : State) : Host.Outcome State Fault Refusal :=
  s.enter .tay handleTay

/-- R160, 0xA9: LDA #$nn. -/
def execLdaImm (d : Byte) (s : State) : Host.Outcome State Fault Refusal :=
  s.enter (.ldaImm d) (handleLda (.imm d))

/-- R166, 0xAA: TAX. -/
def execTax (s : State) : Host.Outcome State Fault Refusal :=
  s.enter .tax handleTax

/-- R162, 0xAC: LDY $nnnn. -/
def execLdyAbs (w : Word) (s : State) : Host.Outcome State Fault Refusal :=
  s.enter (.ldyAbs w) (handleLdy (.abs w))

/-- R160, 0xAD: LDA $nnnn. -/
def execLdaAbs (w : Word) (s : State) : Host.Outcome State Fault Refusal :=
  s.enter (.ldaAbs w) (handleLda (.abs w))

/-- R161, 0xAE: LDX $nnnn. -/
def execLdxAbs (w : Word) (s : State) : Host.Outcome State Fault Refusal :=
  s.enter (.ldxAbs w) (handleLdx (.abs w))

/-- R160, 0xB1: LDA ($nn),Y. -/
def execLdaIndy (a : Byte) (s : State) : Host.Outcome State Fault Refusal :=
  s.enter (.ldaIndy a) (handleLda (.indy a))

/-- R162, 0xB4: LDY $nn,X. -/
def execLdyZpx (a : Byte) (s : State) : Host.Outcome State Fault Refusal :=
  s.enter (.ldyZpx a) (handleLdy (.zpx a))

/-- R160, 0xB5: LDA $nn,X. -/
def execLdaZpx (a : Byte) (s : State) : Host.Outcome State Fault Refusal :=
  s.enter (.ldaZpx a) (handleLda (.zpx a))

/-- R161, 0xB6: LDX $nn,Y. -/
def execLdxZpy (a : Byte) (s : State) : Host.Outcome State Fault Refusal :=
  s.enter (.ldxZpy a) (handleLdx (.zpy a))

/-- R160, 0xB9: LDA $nnnn,Y. -/
def execLdaAbsy (w : Word) (s : State) : Host.Outcome State Fault Refusal :=
  s.enter (.ldaAbsy w) (handleLda (.absy w))

/-- R170, 0xBA: TSX. -/
def execTsx (s : State) : Host.Outcome State Fault Refusal :=
  s.enter .tsx handleTsx

/-- R162, 0xBC: LDY $nnnn,X. -/
def execLdyAbsx (w : Word) (s : State) : Host.Outcome State Fault Refusal :=
  s.enter (.ldyAbsx w) (handleLdy (.absx w))

/-- R160, 0xBD: LDA $nnnn,X. -/
def execLdaAbsx (w : Word) (s : State) : Host.Outcome State Fault Refusal :=
  s.enter (.ldaAbsx w) (handleLda (.absx w))

/-- R161, 0xBE: LDX $nnnn,Y. -/
def execLdxAbsy (w : Word) (s : State) : Host.Outcome State Fault Refusal :=
  s.enter (.ldxAbsy w) (handleLdx (.absy w))

end Sys2Proof.Machine
end

