-- ==== Sys2Proof/Machine/Undocumented.lean ====
section
/-! DEFINITION. The 93 undocumented opcodes (46_undocumented.md): the handlers, then the meaning of each opcode. Under
UNDOC_POLICY = refuse State.enter refuses each of them before its handler runs (R147). -/

namespace Sys2Proof.Machine

/-- SLO (R281). -/
def handleSlo (o : Operand) (s : State) : Effect :=
  s.modifying o (fun v => (aslCore v s.p).1) fun v t =>
    let r := aslCore v s.p
    ((t.setP r.2).setA (s.a ||| r.1)).setNZ (s.a ||| r.1)

/-- RLA (R282). -/
def handleRla (o : Operand) (s : State) : Effect :=
  s.modifying o (fun v => (rolCore v s.p).1) fun v t =>
    let r := rolCore v s.p
    ((t.setP r.2).setA (s.a &&& r.1)).setNZ (s.a &&& r.1)

/-- SRE (R283). -/
def handleSre (o : Operand) (s : State) : Effect :=
  s.modifying o (fun v => (lsrCore v s.p).1) fun v t =>
    let r := lsrCore v s.p
    ((t.setP r.2).setA (s.a ^^^ r.1)).setNZ (s.a ^^^ r.1)

/-- RRA (R284): the carry out of the rotate is the carry into the add. -/
def handleRra (o : Operand) (s : State) : Effect :=
  s.modifying o (fun v => (rorCore v s.p).1) fun v t => (t.setP (rorCore v s.p).2).addToA (rorCore v s.p).1

/-- DCP (R287). -/
def handleDcp (o : Operand) (s : State) : Effect :=
  s.modifying o (fun v => v - 1) fun v t => t.setP (cmpCore t.a (v - 1) t.p)

/-- ISB (R288). -/
def handleIsb (o : Operand) (s : State) : Effect :=
  s.modifying o (fun v => v + 1) fun v t => t.subFromA (v + 1)

/-- SAX (R285). -/
def handleSax (o : Operand) (s : State) : Effect := s.storing o (s.a &&& s.x)

/-- LAX (R286). -/
def handleLax (o : Operand) (s : State) : Effect := s.withM o fun m t => .done (((t.setA m).setX m).setNZ m)

/-- ANC (R289). -/
def handleAnc (o : Operand) (s : State) : Effect :=
  s.withM o fun m t => .done ((t.setA (ancCore t.a m t.p).1).setP (ancCore t.a m t.p).2)

/-- ALR (R290). -/
def handleAlr (o : Operand) (s : State) : Effect :=
  s.withM o fun m t => .done ((t.setA (lsrCore (t.a &&& m) t.p).1).setP (lsrCore (t.a &&& m) t.p).2)

/-- ARR (R291). -/
def handleArr (o : Operand) (s : State) : Effect :=
  s.withM o fun m t => .done ((t.setA (arrCore t.a m t.p).1).setP (arrCore t.a m t.p).2)

/-- SBX (R292). -/
def handleSbx (o : Operand) (s : State) : Effect :=
  s.withM o fun m t => .done ((t.setX (sbxCore t.a t.x m t.p).1).setP (sbxCore t.a t.x m t.p).2)

/-- USBC (R293): SBC immediate. -/
def handleUsbc (o : Operand) (s : State) : Effect := s.withM o fun m t => .done (t.subFromA m)

/-- XAA (R294), with the parameter XAA_MAGIC. -/
def handleXaa (o : Operand) (s : State) : Effect :=
  s.withM o fun m t =>
    let v := (t.a ||| t.cfg.xaaMagic) &&& t.x &&& m
    .done ((t.setA v).setNZ v)

/-- LXA (R295), with the parameter LXA_MAGIC. -/
def handleLxa (o : Operand) (s : State) : Effect :=
  s.withM o fun m t =>
    let v := (t.a ||| t.cfg.lxaMagic) &&& m
    .done (((t.setA v).setX v).setNZ v)

/-- LAS (R296). -/
def handleLas (o : Operand) (s : State) : Effect :=
  s.withM o fun m t => .done ((((t.setA (m &&& t.sp)).setX (m &&& t.sp)).setSp (m &&& t.sp)).setNZ (m &&& t.sp))

/-- TAS (R297): SP gets A & X, then SP & (H + 1) is stored. -/
def handleTas (o : Operand) (s : State) : Effect :=
  s.withEa o fun ea t => .done ((t.setSp (s.a &&& s.x)).write ea (s.a &&& s.x &&& s.baseHighPlusOne o))

/-- SHA (R298). -/
def handleSha (o : Operand) (s : State) : Effect := s.storing o (s.a &&& s.x &&& s.baseHighPlusOne o)

/-- SHX (R299). -/
def handleShx (o : Operand) (s : State) : Effect := s.storing o (s.x &&& s.baseHighPlusOne o)

/-- SHY (R300). -/
def handleShy (o : Operand) (s : State) : Effect := s.storing o (s.y &&& s.baseHighPlusOne o)

/-- The NOP variants with an operand (R301): ea is resolved and read once, the byte is discarded. -/
def handleNopRead (o : Operand) (s : State) : Effect := s.withM o fun _ t => .done t

/-- R281, 0x03: SLO ($nn,X). -/
def execSloIndx (a : Byte) (s : State) : Host.Outcome State Fault Refusal :=
  s.enter (.sloIndx a) (handleSlo (.indx a))

/-- R301, 0x04: NOP $nn. -/
def execNopZp04 (a : Byte) (s : State) : Host.Outcome State Fault Refusal :=
  s.enter (.nopZp04 a) (handleNopRead (.zp a))

/-- R281, 0x07: SLO $nn. -/
def execSloZp (a : Byte) (s : State) : Host.Outcome State Fault Refusal :=
  s.enter (.sloZp a) (handleSlo (.zp a))

/-- R289, 0x0B: ANC #$nn. -/
def execAncImm0B (d : Byte) (s : State) : Host.Outcome State Fault Refusal :=
  s.enter (.ancImm0B d) (handleAnc (.imm d))

/-- R301, 0x0C: NOP $nnnn. -/
def execNopAbs (w : Word) (s : State) : Host.Outcome State Fault Refusal :=
  s.enter (.nopAbs w) (handleNopRead (.abs w))

/-- R281, 0x0F: SLO $nnnn. -/
def execSloAbs (w : Word) (s : State) : Host.Outcome State Fault Refusal :=
  s.enter (.sloAbs w) (handleSlo (.abs w))

/-- R281, 0x13: SLO ($nn),Y. -/
def execSloIndy (a : Byte) (s : State) : Host.Outcome State Fault Refusal :=
  s.enter (.sloIndy a) (handleSlo (.indy a))

/-- R301, 0x14: NOP $nn,X. -/
def execNopZpx14 (a : Byte) (s : State) : Host.Outcome State Fault Refusal :=
  s.enter (.nopZpx14 a) (handleNopRead (.zpx a))

/-- R281, 0x17: SLO $nn,X. -/
def execSloZpx (a : Byte) (s : State) : Host.Outcome State Fault Refusal :=
  s.enter (.sloZpx a) (handleSlo (.zpx a))

/-- R301, 0x1A: NOP. -/
def execNop1A (s : State) : Host.Outcome State Fault Refusal :=
  s.enter .nop1A handleNothing

/-- R281, 0x1B: SLO $nnnn,Y. -/
def execSloAbsy (w : Word) (s : State) : Host.Outcome State Fault Refusal :=
  s.enter (.sloAbsy w) (handleSlo (.absy w))

/-- R301, 0x1C: NOP $nnnn,X. -/
def execNopAbsx1C (w : Word) (s : State) : Host.Outcome State Fault Refusal :=
  s.enter (.nopAbsx1C w) (handleNopRead (.absx w))

/-- R281, 0x1F: SLO $nnnn,X. -/
def execSloAbsx (w : Word) (s : State) : Host.Outcome State Fault Refusal :=
  s.enter (.sloAbsx w) (handleSlo (.absx w))

/-- R282, 0x23: RLA ($nn,X). -/
def execRlaIndx (a : Byte) (s : State) : Host.Outcome State Fault Refusal :=
  s.enter (.rlaIndx a) (handleRla (.indx a))

/-- R282, 0x27: RLA $nn. -/
def execRlaZp (a : Byte) (s : State) : Host.Outcome State Fault Refusal :=
  s.enter (.rlaZp a) (handleRla (.zp a))

/-- R289, 0x2B: ANC #$nn. -/
def execAncImm2B (d : Byte) (s : State) : Host.Outcome State Fault Refusal :=
  s.enter (.ancImm2B d) (handleAnc (.imm d))

/-- R282, 0x2F: RLA $nnnn. -/
def execRlaAbs (w : Word) (s : State) : Host.Outcome State Fault Refusal :=
  s.enter (.rlaAbs w) (handleRla (.abs w))

/-- R282, 0x33: RLA ($nn),Y. -/
def execRlaIndy (a : Byte) (s : State) : Host.Outcome State Fault Refusal :=
  s.enter (.rlaIndy a) (handleRla (.indy a))

/-- R301, 0x34: NOP $nn,X. -/
def execNopZpx34 (a : Byte) (s : State) : Host.Outcome State Fault Refusal :=
  s.enter (.nopZpx34 a) (handleNopRead (.zpx a))

/-- R282, 0x37: RLA $nn,X. -/
def execRlaZpx (a : Byte) (s : State) : Host.Outcome State Fault Refusal :=
  s.enter (.rlaZpx a) (handleRla (.zpx a))

/-- R301, 0x3A: NOP. -/
def execNop3A (s : State) : Host.Outcome State Fault Refusal :=
  s.enter .nop3A handleNothing

/-- R282, 0x3B: RLA $nnnn,Y. -/
def execRlaAbsy (w : Word) (s : State) : Host.Outcome State Fault Refusal :=
  s.enter (.rlaAbsy w) (handleRla (.absy w))

/-- R301, 0x3C: NOP $nnnn,X. -/
def execNopAbsx3C (w : Word) (s : State) : Host.Outcome State Fault Refusal :=
  s.enter (.nopAbsx3C w) (handleNopRead (.absx w))

/-- R282, 0x3F: RLA $nnnn,X. -/
def execRlaAbsx (w : Word) (s : State) : Host.Outcome State Fault Refusal :=
  s.enter (.rlaAbsx w) (handleRla (.absx w))

/-- R283, 0x43: SRE ($nn,X). -/
def execSreIndx (a : Byte) (s : State) : Host.Outcome State Fault Refusal :=
  s.enter (.sreIndx a) (handleSre (.indx a))

/-- R301, 0x44: NOP $nn. -/
def execNopZp44 (a : Byte) (s : State) : Host.Outcome State Fault Refusal :=
  s.enter (.nopZp44 a) (handleNopRead (.zp a))

/-- R283, 0x47: SRE $nn. -/
def execSreZp (a : Byte) (s : State) : Host.Outcome State Fault Refusal :=
  s.enter (.sreZp a) (handleSre (.zp a))

/-- R290, 0x4B: ALR #$nn. -/
def execAlrImm (d : Byte) (s : State) : Host.Outcome State Fault Refusal :=
  s.enter (.alrImm d) (handleAlr (.imm d))

/-- R283, 0x4F: SRE $nnnn. -/
def execSreAbs (w : Word) (s : State) : Host.Outcome State Fault Refusal :=
  s.enter (.sreAbs w) (handleSre (.abs w))

/-- R283, 0x53: SRE ($nn),Y. -/
def execSreIndy (a : Byte) (s : State) : Host.Outcome State Fault Refusal :=
  s.enter (.sreIndy a) (handleSre (.indy a))

/-- R301, 0x54: NOP $nn,X. -/
def execNopZpx54 (a : Byte) (s : State) : Host.Outcome State Fault Refusal :=
  s.enter (.nopZpx54 a) (handleNopRead (.zpx a))

/-- R283, 0x57: SRE $nn,X. -/
def execSreZpx (a : Byte) (s : State) : Host.Outcome State Fault Refusal :=
  s.enter (.sreZpx a) (handleSre (.zpx a))

/-- R301, 0x5A: NOP. -/
def execNop5A (s : State) : Host.Outcome State Fault Refusal :=
  s.enter .nop5A handleNothing

/-- R283, 0x5B: SRE $nnnn,Y. -/
def execSreAbsy (w : Word) (s : State) : Host.Outcome State Fault Refusal :=
  s.enter (.sreAbsy w) (handleSre (.absy w))

/-- R301, 0x5C: NOP $nnnn,X. -/
def execNopAbsx5C (w : Word) (s : State) : Host.Outcome State Fault Refusal :=
  s.enter (.nopAbsx5C w) (handleNopRead (.absx w))

/-- R283, 0x5F: SRE $nnnn,X. -/
def execSreAbsx (w : Word) (s : State) : Host.Outcome State Fault Refusal :=
  s.enter (.sreAbsx w) (handleSre (.absx w))

/-- R284, 0x63: RRA ($nn,X). -/
def execRraIndx (a : Byte) (s : State) : Host.Outcome State Fault Refusal :=
  s.enter (.rraIndx a) (handleRra (.indx a))

/-- R301, 0x64: NOP $nn. -/
def execNopZp64 (a : Byte) (s : State) : Host.Outcome State Fault Refusal :=
  s.enter (.nopZp64 a) (handleNopRead (.zp a))

/-- R284, 0x67: RRA $nn. -/
def execRraZp (a : Byte) (s : State) : Host.Outcome State Fault Refusal :=
  s.enter (.rraZp a) (handleRra (.zp a))

/-- R291, 0x6B: ARR #$nn. -/
def execArrImm (d : Byte) (s : State) : Host.Outcome State Fault Refusal :=
  s.enter (.arrImm d) (handleArr (.imm d))

/-- R284, 0x6F: RRA $nnnn. -/
def execRraAbs (w : Word) (s : State) : Host.Outcome State Fault Refusal :=
  s.enter (.rraAbs w) (handleRra (.abs w))

/-- R284, 0x73: RRA ($nn),Y. -/
def execRraIndy (a : Byte) (s : State) : Host.Outcome State Fault Refusal :=
  s.enter (.rraIndy a) (handleRra (.indy a))

/-- R301, 0x74: NOP $nn,X. -/
def execNopZpx74 (a : Byte) (s : State) : Host.Outcome State Fault Refusal :=
  s.enter (.nopZpx74 a) (handleNopRead (.zpx a))

/-- R284, 0x77: RRA $nn,X. -/
def execRraZpx (a : Byte) (s : State) : Host.Outcome State Fault Refusal :=
  s.enter (.rraZpx a) (handleRra (.zpx a))

/-- R301, 0x7A: NOP. -/
def execNop7A (s : State) : Host.Outcome State Fault Refusal :=
  s.enter .nop7A handleNothing

/-- R284, 0x7B: RRA $nnnn,Y. -/
def execRraAbsy (w : Word) (s : State) : Host.Outcome State Fault Refusal :=
  s.enter (.rraAbsy w) (handleRra (.absy w))

/-- R301, 0x7C: NOP $nnnn,X. -/
def execNopAbsx7C (w : Word) (s : State) : Host.Outcome State Fault Refusal :=
  s.enter (.nopAbsx7C w) (handleNopRead (.absx w))

/-- R284, 0x7F: RRA $nnnn,X. -/
def execRraAbsx (w : Word) (s : State) : Host.Outcome State Fault Refusal :=
  s.enter (.rraAbsx w) (handleRra (.absx w))

/-- R301, 0x80: NOP #$nn. -/
def execNopImm80 (d : Byte) (s : State) : Host.Outcome State Fault Refusal :=
  s.enter (.nopImm80 d) (handleNopRead (.imm d))

/-- R301, 0x82: NOP #$nn. -/
def execNopImm82 (d : Byte) (s : State) : Host.Outcome State Fault Refusal :=
  s.enter (.nopImm82 d) (handleNopRead (.imm d))

/-- R285, 0x83: SAX ($nn,X). -/
def execSaxIndx (a : Byte) (s : State) : Host.Outcome State Fault Refusal :=
  s.enter (.saxIndx a) (handleSax (.indx a))

/-- R285, 0x87: SAX $nn. -/
def execSaxZp (a : Byte) (s : State) : Host.Outcome State Fault Refusal :=
  s.enter (.saxZp a) (handleSax (.zp a))

/-- R301, 0x89: NOP #$nn. -/
def execNopImm89 (d : Byte) (s : State) : Host.Outcome State Fault Refusal :=
  s.enter (.nopImm89 d) (handleNopRead (.imm d))

/-- R294, 0x8B: XAA #$nn. -/
def execXaaImm (d : Byte) (s : State) : Host.Outcome State Fault Refusal :=
  s.enter (.xaaImm d) (handleXaa (.imm d))

/-- R285, 0x8F: SAX $nnnn. -/
def execSaxAbs (w : Word) (s : State) : Host.Outcome State Fault Refusal :=
  s.enter (.saxAbs w) (handleSax (.abs w))

/-- R298, 0x93: SHA ($nn),Y. -/
def execShaIndy (a : Byte) (s : State) : Host.Outcome State Fault Refusal :=
  s.enter (.shaIndy a) (handleSha (.indy a))

/-- R285, 0x97: SAX $nn,Y. -/
def execSaxZpy (a : Byte) (s : State) : Host.Outcome State Fault Refusal :=
  s.enter (.saxZpy a) (handleSax (.zpy a))

/-- R297, 0x9B: TAS $nnnn,Y. -/
def execTasAbsy (w : Word) (s : State) : Host.Outcome State Fault Refusal :=
  s.enter (.tasAbsy w) (handleTas (.absy w))

/-- R300, 0x9C: SHY $nnnn,X. -/
def execShyAbsx (w : Word) (s : State) : Host.Outcome State Fault Refusal :=
  s.enter (.shyAbsx w) (handleShy (.absx w))

/-- R299, 0x9E: SHX $nnnn,Y. -/
def execShxAbsy (w : Word) (s : State) : Host.Outcome State Fault Refusal :=
  s.enter (.shxAbsy w) (handleShx (.absy w))

/-- R298, 0x9F: SHA $nnnn,Y. -/
def execShaAbsy (w : Word) (s : State) : Host.Outcome State Fault Refusal :=
  s.enter (.shaAbsy w) (handleSha (.absy w))

/-- R286, 0xA3: LAX ($nn,X). -/
def execLaxIndx (a : Byte) (s : State) : Host.Outcome State Fault Refusal :=
  s.enter (.laxIndx a) (handleLax (.indx a))

/-- R286, 0xA7: LAX $nn. -/
def execLaxZp (a : Byte) (s : State) : Host.Outcome State Fault Refusal :=
  s.enter (.laxZp a) (handleLax (.zp a))

/-- R295, 0xAB: LXA #$nn. -/
def execLxaImm (d : Byte) (s : State) : Host.Outcome State Fault Refusal :=
  s.enter (.lxaImm d) (handleLxa (.imm d))

/-- R286, 0xAF: LAX $nnnn. -/
def execLaxAbs (w : Word) (s : State) : Host.Outcome State Fault Refusal :=
  s.enter (.laxAbs w) (handleLax (.abs w))

/-- R286, 0xB3: LAX ($nn),Y. -/
def execLaxIndy (a : Byte) (s : State) : Host.Outcome State Fault Refusal :=
  s.enter (.laxIndy a) (handleLax (.indy a))

/-- R286, 0xB7: LAX $nn,Y. -/
def execLaxZpy (a : Byte) (s : State) : Host.Outcome State Fault Refusal :=
  s.enter (.laxZpy a) (handleLax (.zpy a))

/-- R296, 0xBB: LAS $nnnn,Y. -/
def execLasAbsy (w : Word) (s : State) : Host.Outcome State Fault Refusal :=
  s.enter (.lasAbsy w) (handleLas (.absy w))

/-- R286, 0xBF: LAX $nnnn,Y. -/
def execLaxAbsy (w : Word) (s : State) : Host.Outcome State Fault Refusal :=
  s.enter (.laxAbsy w) (handleLax (.absy w))

/-- R301, 0xC2: NOP #$nn. -/
def execNopImmC2 (d : Byte) (s : State) : Host.Outcome State Fault Refusal :=
  s.enter (.nopImmC2 d) (handleNopRead (.imm d))

/-- R287, 0xC3: DCP ($nn,X). -/
def execDcpIndx (a : Byte) (s : State) : Host.Outcome State Fault Refusal :=
  s.enter (.dcpIndx a) (handleDcp (.indx a))

/-- R287, 0xC7: DCP $nn. -/
def execDcpZp (a : Byte) (s : State) : Host.Outcome State Fault Refusal :=
  s.enter (.dcpZp a) (handleDcp (.zp a))

/-- R292, 0xCB: SBX #$nn. -/
def execSbxImm (d : Byte) (s : State) : Host.Outcome State Fault Refusal :=
  s.enter (.sbxImm d) (handleSbx (.imm d))

/-- R287, 0xCF: DCP $nnnn. -/
def execDcpAbs (w : Word) (s : State) : Host.Outcome State Fault Refusal :=
  s.enter (.dcpAbs w) (handleDcp (.abs w))

/-- R287, 0xD3: DCP ($nn),Y. -/
def execDcpIndy (a : Byte) (s : State) : Host.Outcome State Fault Refusal :=
  s.enter (.dcpIndy a) (handleDcp (.indy a))

/-- R301, 0xD4: NOP $nn,X. -/
def execNopZpxD4 (a : Byte) (s : State) : Host.Outcome State Fault Refusal :=
  s.enter (.nopZpxD4 a) (handleNopRead (.zpx a))

/-- R287, 0xD7: DCP $nn,X. -/
def execDcpZpx (a : Byte) (s : State) : Host.Outcome State Fault Refusal :=
  s.enter (.dcpZpx a) (handleDcp (.zpx a))

/-- R301, 0xDA: NOP. -/
def execNopDA (s : State) : Host.Outcome State Fault Refusal :=
  s.enter .nopDA handleNothing

/-- R287, 0xDB: DCP $nnnn,Y. -/
def execDcpAbsy (w : Word) (s : State) : Host.Outcome State Fault Refusal :=
  s.enter (.dcpAbsy w) (handleDcp (.absy w))

/-- R301, 0xDC: NOP $nnnn,X. -/
def execNopAbsxDC (w : Word) (s : State) : Host.Outcome State Fault Refusal :=
  s.enter (.nopAbsxDC w) (handleNopRead (.absx w))

/-- R287, 0xDF: DCP $nnnn,X. -/
def execDcpAbsx (w : Word) (s : State) : Host.Outcome State Fault Refusal :=
  s.enter (.dcpAbsx w) (handleDcp (.absx w))

/-- R301, 0xE2: NOP #$nn. -/
def execNopImmE2 (d : Byte) (s : State) : Host.Outcome State Fault Refusal :=
  s.enter (.nopImmE2 d) (handleNopRead (.imm d))

/-- R288, 0xE3: ISB ($nn,X). -/
def execIsbIndx (a : Byte) (s : State) : Host.Outcome State Fault Refusal :=
  s.enter (.isbIndx a) (handleIsb (.indx a))

/-- R288, 0xE7: ISB $nn. -/
def execIsbZp (a : Byte) (s : State) : Host.Outcome State Fault Refusal :=
  s.enter (.isbZp a) (handleIsb (.zp a))

/-- R293, 0xEB: USBC #$nn. -/
def execUsbcImm (d : Byte) (s : State) : Host.Outcome State Fault Refusal :=
  s.enter (.usbcImm d) (handleUsbc (.imm d))

/-- R288, 0xEF: ISB $nnnn. -/
def execIsbAbs (w : Word) (s : State) : Host.Outcome State Fault Refusal :=
  s.enter (.isbAbs w) (handleIsb (.abs w))

/-- R288, 0xF3: ISB ($nn),Y. -/
def execIsbIndy (a : Byte) (s : State) : Host.Outcome State Fault Refusal :=
  s.enter (.isbIndy a) (handleIsb (.indy a))

/-- R301, 0xF4: NOP $nn,X. -/
def execNopZpxF4 (a : Byte) (s : State) : Host.Outcome State Fault Refusal :=
  s.enter (.nopZpxF4 a) (handleNopRead (.zpx a))

/-- R288, 0xF7: ISB $nn,X. -/
def execIsbZpx (a : Byte) (s : State) : Host.Outcome State Fault Refusal :=
  s.enter (.isbZpx a) (handleIsb (.zpx a))

/-- R301, 0xFA: NOP. -/
def execNopFA (s : State) : Host.Outcome State Fault Refusal :=
  s.enter .nopFA handleNothing

/-- R288, 0xFB: ISB $nnnn,Y. -/
def execIsbAbsy (w : Word) (s : State) : Host.Outcome State Fault Refusal :=
  s.enter (.isbAbsy w) (handleIsb (.absy w))

/-- R301, 0xFC: NOP $nnnn,X. -/
def execNopAbsxFC (w : Word) (s : State) : Host.Outcome State Fault Refusal :=
  s.enter (.nopAbsxFC w) (handleNopRead (.absx w))

/-- R288, 0xFF: ISB $nnnn,X. -/
def execIsbAbsx (w : Word) (s : State) : Host.Outcome State Fault Refusal :=
  s.enter (.isbAbsx w) (handleIsb (.absx w))

end Sys2Proof.Machine
end

