-- ==== Sys2Proof/Machine/Dispatch.lean ====
section
/-! DEFINITION. The dispatch of a decoded instruction to its meaning, one arm per constructor of Instr, in the order
of the opcode map (R94). exec runs at the state after the fetch, where PC = pc1 (R136, R144). -/

namespace Sys2Proof.Machine

def exec (i : Instr) (s : State) : Host.Outcome State Fault Refusal :=
  match i with
  | .brk => Sys2Proof.Machine.execBrk s
  | .oraIndx a => Sys2Proof.Machine.execOraIndx a s
  | .jam02 => Sys2Proof.Machine.execJam02 s
  | .sloIndx a => Sys2Proof.Machine.execSloIndx a s
  | .nopZp04 a => Sys2Proof.Machine.execNopZp04 a s
  | .oraZp a => Sys2Proof.Machine.execOraZp a s
  | .aslZp a => Sys2Proof.Machine.execAslZp a s
  | .sloZp a => Sys2Proof.Machine.execSloZp a s
  | .php => Sys2Proof.Machine.execPhp s
  | .oraImm d => Sys2Proof.Machine.execOraImm d s
  | .aslAcc => Sys2Proof.Machine.execAslAcc s
  | .ancImm0B d => Sys2Proof.Machine.execAncImm0B d s
  | .nopAbs w => Sys2Proof.Machine.execNopAbs w s
  | .oraAbs w => Sys2Proof.Machine.execOraAbs w s
  | .aslAbs w => Sys2Proof.Machine.execAslAbs w s
  | .sloAbs w => Sys2Proof.Machine.execSloAbs w s
  | .bplRel d => Sys2Proof.Machine.execBplRel d s
  | .oraIndy a => Sys2Proof.Machine.execOraIndy a s
  | .jam12 => Sys2Proof.Machine.execJam12 s
  | .sloIndy a => Sys2Proof.Machine.execSloIndy a s
  | .nopZpx14 a => Sys2Proof.Machine.execNopZpx14 a s
  | .oraZpx a => Sys2Proof.Machine.execOraZpx a s
  | .aslZpx a => Sys2Proof.Machine.execAslZpx a s
  | .sloZpx a => Sys2Proof.Machine.execSloZpx a s
  | .clc => Sys2Proof.Machine.execClc s
  | .oraAbsy w => Sys2Proof.Machine.execOraAbsy w s
  | .nop1A => Sys2Proof.Machine.execNop1A s
  | .sloAbsy w => Sys2Proof.Machine.execSloAbsy w s
  | .nopAbsx1C w => Sys2Proof.Machine.execNopAbsx1C w s
  | .oraAbsx w => Sys2Proof.Machine.execOraAbsx w s
  | .aslAbsx w => Sys2Proof.Machine.execAslAbsx w s
  | .sloAbsx w => Sys2Proof.Machine.execSloAbsx w s
  | .jsrAbs w => Sys2Proof.Machine.execJsrAbs w s
  | .andIndx a => Sys2Proof.Machine.execAndIndx a s
  | .jam22 => Sys2Proof.Machine.execJam22 s
  | .rlaIndx a => Sys2Proof.Machine.execRlaIndx a s
  | .bitZp a => Sys2Proof.Machine.execBitZp a s
  | .andZp a => Sys2Proof.Machine.execAndZp a s
  | .rolZp a => Sys2Proof.Machine.execRolZp a s
  | .rlaZp a => Sys2Proof.Machine.execRlaZp a s
  | .plp => Sys2Proof.Machine.execPlp s
  | .andImm d => Sys2Proof.Machine.execAndImm d s
  | .rolAcc => Sys2Proof.Machine.execRolAcc s
  | .ancImm2B d => Sys2Proof.Machine.execAncImm2B d s
  | .bitAbs w => Sys2Proof.Machine.execBitAbs w s
  | .andAbs w => Sys2Proof.Machine.execAndAbs w s
  | .rolAbs w => Sys2Proof.Machine.execRolAbs w s
  | .rlaAbs w => Sys2Proof.Machine.execRlaAbs w s
  | .bmiRel d => Sys2Proof.Machine.execBmiRel d s
  | .andIndy a => Sys2Proof.Machine.execAndIndy a s
  | .jam32 => Sys2Proof.Machine.execJam32 s
  | .rlaIndy a => Sys2Proof.Machine.execRlaIndy a s
  | .nopZpx34 a => Sys2Proof.Machine.execNopZpx34 a s
  | .andZpx a => Sys2Proof.Machine.execAndZpx a s
  | .rolZpx a => Sys2Proof.Machine.execRolZpx a s
  | .rlaZpx a => Sys2Proof.Machine.execRlaZpx a s
  | .sec => Sys2Proof.Machine.execSec s
  | .andAbsy w => Sys2Proof.Machine.execAndAbsy w s
  | .nop3A => Sys2Proof.Machine.execNop3A s
  | .rlaAbsy w => Sys2Proof.Machine.execRlaAbsy w s
  | .nopAbsx3C w => Sys2Proof.Machine.execNopAbsx3C w s
  | .andAbsx w => Sys2Proof.Machine.execAndAbsx w s
  | .rolAbsx w => Sys2Proof.Machine.execRolAbsx w s
  | .rlaAbsx w => Sys2Proof.Machine.execRlaAbsx w s
  | .rti => Sys2Proof.Machine.execRti s
  | .eorIndx a => Sys2Proof.Machine.execEorIndx a s
  | .jam42 => Sys2Proof.Machine.execJam42 s
  | .sreIndx a => Sys2Proof.Machine.execSreIndx a s
  | .nopZp44 a => Sys2Proof.Machine.execNopZp44 a s
  | .eorZp a => Sys2Proof.Machine.execEorZp a s
  | .lsrZp a => Sys2Proof.Machine.execLsrZp a s
  | .sreZp a => Sys2Proof.Machine.execSreZp a s
  | .pha => Sys2Proof.Machine.execPha s
  | .eorImm d => Sys2Proof.Machine.execEorImm d s
  | .lsrAcc => Sys2Proof.Machine.execLsrAcc s
  | .alrImm d => Sys2Proof.Machine.execAlrImm d s
  | .jmpAbs w => Sys2Proof.Machine.execJmpAbs w s
  | .eorAbs w => Sys2Proof.Machine.execEorAbs w s
  | .lsrAbs w => Sys2Proof.Machine.execLsrAbs w s
  | .sreAbs w => Sys2Proof.Machine.execSreAbs w s
  | .bvcRel d => Sys2Proof.Machine.execBvcRel d s
  | .eorIndy a => Sys2Proof.Machine.execEorIndy a s
  | .jam52 => Sys2Proof.Machine.execJam52 s
  | .sreIndy a => Sys2Proof.Machine.execSreIndy a s
  | .nopZpx54 a => Sys2Proof.Machine.execNopZpx54 a s
  | .eorZpx a => Sys2Proof.Machine.execEorZpx a s
  | .lsrZpx a => Sys2Proof.Machine.execLsrZpx a s
  | .sreZpx a => Sys2Proof.Machine.execSreZpx a s
  | .cli => Sys2Proof.Machine.execCli s
  | .eorAbsy w => Sys2Proof.Machine.execEorAbsy w s
  | .nop5A => Sys2Proof.Machine.execNop5A s
  | .sreAbsy w => Sys2Proof.Machine.execSreAbsy w s
  | .nopAbsx5C w => Sys2Proof.Machine.execNopAbsx5C w s
  | .eorAbsx w => Sys2Proof.Machine.execEorAbsx w s
  | .lsrAbsx w => Sys2Proof.Machine.execLsrAbsx w s
  | .sreAbsx w => Sys2Proof.Machine.execSreAbsx w s
  | .rts => Sys2Proof.Machine.execRts s
  | .adcIndx a => Sys2Proof.Machine.execAdcIndx a s
  | .jam62 => Sys2Proof.Machine.execJam62 s
  | .rraIndx a => Sys2Proof.Machine.execRraIndx a s
  | .nopZp64 a => Sys2Proof.Machine.execNopZp64 a s
  | .adcZp a => Sys2Proof.Machine.execAdcZp a s
  | .rorZp a => Sys2Proof.Machine.execRorZp a s
  | .rraZp a => Sys2Proof.Machine.execRraZp a s
  | .pla => Sys2Proof.Machine.execPla s
  | .adcImm d => Sys2Proof.Machine.execAdcImm d s
  | .rorAcc => Sys2Proof.Machine.execRorAcc s
  | .arrImm d => Sys2Proof.Machine.execArrImm d s
  | .jmpInd w => Sys2Proof.Machine.execJmpInd w s
  | .adcAbs w => Sys2Proof.Machine.execAdcAbs w s
  | .rorAbs w => Sys2Proof.Machine.execRorAbs w s
  | .rraAbs w => Sys2Proof.Machine.execRraAbs w s
  | .bvsRel d => Sys2Proof.Machine.execBvsRel d s
  | .adcIndy a => Sys2Proof.Machine.execAdcIndy a s
  | .jam72 => Sys2Proof.Machine.execJam72 s
  | .rraIndy a => Sys2Proof.Machine.execRraIndy a s
  | .nopZpx74 a => Sys2Proof.Machine.execNopZpx74 a s
  | .adcZpx a => Sys2Proof.Machine.execAdcZpx a s
  | .rorZpx a => Sys2Proof.Machine.execRorZpx a s
  | .rraZpx a => Sys2Proof.Machine.execRraZpx a s
  | .sei => Sys2Proof.Machine.execSei s
  | .adcAbsy w => Sys2Proof.Machine.execAdcAbsy w s
  | .nop7A => Sys2Proof.Machine.execNop7A s
  | .rraAbsy w => Sys2Proof.Machine.execRraAbsy w s
  | .nopAbsx7C w => Sys2Proof.Machine.execNopAbsx7C w s
  | .adcAbsx w => Sys2Proof.Machine.execAdcAbsx w s
  | .rorAbsx w => Sys2Proof.Machine.execRorAbsx w s
  | .rraAbsx w => Sys2Proof.Machine.execRraAbsx w s
  | .nopImm80 d => Sys2Proof.Machine.execNopImm80 d s
  | .staIndx a => Sys2Proof.Machine.execStaIndx a s
  | .nopImm82 d => Sys2Proof.Machine.execNopImm82 d s
  | .saxIndx a => Sys2Proof.Machine.execSaxIndx a s
  | .styZp a => Sys2Proof.Machine.execStyZp a s
  | .staZp a => Sys2Proof.Machine.execStaZp a s
  | .stxZp a => Sys2Proof.Machine.execStxZp a s
  | .saxZp a => Sys2Proof.Machine.execSaxZp a s
  | .dey => Sys2Proof.Machine.execDey s
  | .nopImm89 d => Sys2Proof.Machine.execNopImm89 d s
  | .txa => Sys2Proof.Machine.execTxa s
  | .xaaImm d => Sys2Proof.Machine.execXaaImm d s
  | .styAbs w => Sys2Proof.Machine.execStyAbs w s
  | .staAbs w => Sys2Proof.Machine.execStaAbs w s
  | .stxAbs w => Sys2Proof.Machine.execStxAbs w s
  | .saxAbs w => Sys2Proof.Machine.execSaxAbs w s
  | .bccRel d => Sys2Proof.Machine.execBccRel d s
  | .staIndy a => Sys2Proof.Machine.execStaIndy a s
  | .jam92 => Sys2Proof.Machine.execJam92 s
  | .shaIndy a => Sys2Proof.Machine.execShaIndy a s
  | .styZpx a => Sys2Proof.Machine.execStyZpx a s
  | .staZpx a => Sys2Proof.Machine.execStaZpx a s
  | .stxZpy a => Sys2Proof.Machine.execStxZpy a s
  | .saxZpy a => Sys2Proof.Machine.execSaxZpy a s
  | .tya => Sys2Proof.Machine.execTya s
  | .staAbsy w => Sys2Proof.Machine.execStaAbsy w s
  | .txs => Sys2Proof.Machine.execTxs s
  | .tasAbsy w => Sys2Proof.Machine.execTasAbsy w s
  | .shyAbsx w => Sys2Proof.Machine.execShyAbsx w s
  | .staAbsx w => Sys2Proof.Machine.execStaAbsx w s
  | .shxAbsy w => Sys2Proof.Machine.execShxAbsy w s
  | .shaAbsy w => Sys2Proof.Machine.execShaAbsy w s
  | .ldyImm d => Sys2Proof.Machine.execLdyImm d s
  | .ldaIndx a => Sys2Proof.Machine.execLdaIndx a s
  | .ldxImm d => Sys2Proof.Machine.execLdxImm d s
  | .laxIndx a => Sys2Proof.Machine.execLaxIndx a s
  | .ldyZp a => Sys2Proof.Machine.execLdyZp a s
  | .ldaZp a => Sys2Proof.Machine.execLdaZp a s
  | .ldxZp a => Sys2Proof.Machine.execLdxZp a s
  | .laxZp a => Sys2Proof.Machine.execLaxZp a s
  | .tay => Sys2Proof.Machine.execTay s
  | .ldaImm d => Sys2Proof.Machine.execLdaImm d s
  | .tax => Sys2Proof.Machine.execTax s
  | .lxaImm d => Sys2Proof.Machine.execLxaImm d s
  | .ldyAbs w => Sys2Proof.Machine.execLdyAbs w s
  | .ldaAbs w => Sys2Proof.Machine.execLdaAbs w s
  | .ldxAbs w => Sys2Proof.Machine.execLdxAbs w s
  | .laxAbs w => Sys2Proof.Machine.execLaxAbs w s
  | .bcsRel d => Sys2Proof.Machine.execBcsRel d s
  | .ldaIndy a => Sys2Proof.Machine.execLdaIndy a s
  | .jamB2 => Sys2Proof.Machine.execJamB2 s
  | .laxIndy a => Sys2Proof.Machine.execLaxIndy a s
  | .ldyZpx a => Sys2Proof.Machine.execLdyZpx a s
  | .ldaZpx a => Sys2Proof.Machine.execLdaZpx a s
  | .ldxZpy a => Sys2Proof.Machine.execLdxZpy a s
  | .laxZpy a => Sys2Proof.Machine.execLaxZpy a s
  | .clv => Sys2Proof.Machine.execClv s
  | .ldaAbsy w => Sys2Proof.Machine.execLdaAbsy w s
  | .tsx => Sys2Proof.Machine.execTsx s
  | .lasAbsy w => Sys2Proof.Machine.execLasAbsy w s
  | .ldyAbsx w => Sys2Proof.Machine.execLdyAbsx w s
  | .ldaAbsx w => Sys2Proof.Machine.execLdaAbsx w s
  | .ldxAbsy w => Sys2Proof.Machine.execLdxAbsy w s
  | .laxAbsy w => Sys2Proof.Machine.execLaxAbsy w s
  | .cpyImm d => Sys2Proof.Machine.execCpyImm d s
  | .cmpIndx a => Sys2Proof.Machine.execCmpIndx a s
  | .nopImmC2 d => Sys2Proof.Machine.execNopImmC2 d s
  | .dcpIndx a => Sys2Proof.Machine.execDcpIndx a s
  | .cpyZp a => Sys2Proof.Machine.execCpyZp a s
  | .cmpZp a => Sys2Proof.Machine.execCmpZp a s
  | .decZp a => Sys2Proof.Machine.execDecZp a s
  | .dcpZp a => Sys2Proof.Machine.execDcpZp a s
  | .iny => Sys2Proof.Machine.execIny s
  | .cmpImm d => Sys2Proof.Machine.execCmpImm d s
  | .dex => Sys2Proof.Machine.execDex s
  | .sbxImm d => Sys2Proof.Machine.execSbxImm d s
  | .cpyAbs w => Sys2Proof.Machine.execCpyAbs w s
  | .cmpAbs w => Sys2Proof.Machine.execCmpAbs w s
  | .decAbs w => Sys2Proof.Machine.execDecAbs w s
  | .dcpAbs w => Sys2Proof.Machine.execDcpAbs w s
  | .bneRel d => Sys2Proof.Machine.execBneRel d s
  | .cmpIndy a => Sys2Proof.Machine.execCmpIndy a s
  | .jamD2 => Sys2Proof.Machine.execJamD2 s
  | .dcpIndy a => Sys2Proof.Machine.execDcpIndy a s
  | .nopZpxD4 a => Sys2Proof.Machine.execNopZpxD4 a s
  | .cmpZpx a => Sys2Proof.Machine.execCmpZpx a s
  | .decZpx a => Sys2Proof.Machine.execDecZpx a s
  | .dcpZpx a => Sys2Proof.Machine.execDcpZpx a s
  | .cld => Sys2Proof.Machine.execCld s
  | .cmpAbsy w => Sys2Proof.Machine.execCmpAbsy w s
  | .nopDA => Sys2Proof.Machine.execNopDA s
  | .dcpAbsy w => Sys2Proof.Machine.execDcpAbsy w s
  | .nopAbsxDC w => Sys2Proof.Machine.execNopAbsxDC w s
  | .cmpAbsx w => Sys2Proof.Machine.execCmpAbsx w s
  | .decAbsx w => Sys2Proof.Machine.execDecAbsx w s
  | .dcpAbsx w => Sys2Proof.Machine.execDcpAbsx w s
  | .cpxImm d => Sys2Proof.Machine.execCpxImm d s
  | .sbcIndx a => Sys2Proof.Machine.execSbcIndx a s
  | .nopImmE2 d => Sys2Proof.Machine.execNopImmE2 d s
  | .isbIndx a => Sys2Proof.Machine.execIsbIndx a s
  | .cpxZp a => Sys2Proof.Machine.execCpxZp a s
  | .sbcZp a => Sys2Proof.Machine.execSbcZp a s
  | .incZp a => Sys2Proof.Machine.execIncZp a s
  | .isbZp a => Sys2Proof.Machine.execIsbZp a s
  | .inx => Sys2Proof.Machine.execInx s
  | .sbcImm d => Sys2Proof.Machine.execSbcImm d s
  | .nop => Sys2Proof.Machine.execNop s
  | .usbcImm d => Sys2Proof.Machine.execUsbcImm d s
  | .cpxAbs w => Sys2Proof.Machine.execCpxAbs w s
  | .sbcAbs w => Sys2Proof.Machine.execSbcAbs w s
  | .incAbs w => Sys2Proof.Machine.execIncAbs w s
  | .isbAbs w => Sys2Proof.Machine.execIsbAbs w s
  | .beqRel d => Sys2Proof.Machine.execBeqRel d s
  | .sbcIndy a => Sys2Proof.Machine.execSbcIndy a s
  | .jamF2 => Sys2Proof.Machine.execJamF2 s
  | .isbIndy a => Sys2Proof.Machine.execIsbIndy a s
  | .nopZpxF4 a => Sys2Proof.Machine.execNopZpxF4 a s
  | .sbcZpx a => Sys2Proof.Machine.execSbcZpx a s
  | .incZpx a => Sys2Proof.Machine.execIncZpx a s
  | .isbZpx a => Sys2Proof.Machine.execIsbZpx a s
  | .sed => Sys2Proof.Machine.execSed s
  | .sbcAbsy w => Sys2Proof.Machine.execSbcAbsy w s
  | .nopFA => Sys2Proof.Machine.execNopFA s
  | .isbAbsy w => Sys2Proof.Machine.execIsbAbsy w s
  | .nopAbsxFC w => Sys2Proof.Machine.execNopAbsxFC w s
  | .sbcAbsx w => Sys2Proof.Machine.execSbcAbsx w s
  | .incAbsx w => Sys2Proof.Machine.execIncAbsx w s
  | .isbAbsx w => Sys2Proof.Machine.execIsbAbsx w s

end Sys2Proof.Machine
end

