-- ==== Sys2Proof/Machine/Step.lean ====
section
/-! DEFINITION. One step of the machine (40_execution_engine.md), and the placing of an instruction where the next
step fetches it. -/

namespace Sys2Proof.Machine

/-- One step: FETCH, then DECODE, EXECUTE and ADVANCE of the instruction fetched (R130 to R139). In HALTED and FAULTED
a step request does nothing (R142). -/
def step (s : State) : Host.Outcome State Fault Refusal :=
  match s.run with
  | .ready => exec s.beginStep.fetchInstr s.beginStep.afterFetch
  | .halted => .next s
  | .faulted => .next s

/-- s with an instruction of nbits bits w stored where step fetches its next instruction, and READY to fetch it. Where
PC and the two addresses after it are all backed by memory the bytes are stored there; under nes_store they may not
be, and then the program is placed at address 0 and PC is 0. DESIGN CHOICE, safe (log entry 10). -/
def State.withFetchWord (s : State) (nbits w : Nat) : State :=
  s.placeable.placeBytes s.placeable.pc (wordBytes nbits w)

end Sys2Proof.Machine
end

