-- ==== Sys2Proof/Machine/Boot.lean ====
section
/-! DEFINITION. The host's operations on the core (R145): reset (R340), load (R342), run (R145), and the three together
(R343). They are no instructions: step does not call them. -/

namespace Sys2Proof.Machine

/-- RESET_VECTOR: the low byte at 0xFFFC, the high byte at 0xFFFD (R73). -/
def resetVector : Word := 0xFFFC

/-- `MemRead(addr, 2)` (R14, R62): low byte first, the high byte's address wraps modulo 65536. -/
def State.read16 (s : State) (addr : Word) : Word :=
  word16 ((s.afterRead addr).read (addr + 1)) (s.read addr)

/-- The machine after `MemRead(addr, 2)`. -/
def State.afterRead16 (s : State) (addr : Word) : State := (s.afterRead addr).afterRead (addr + 1)

/-- `MemWrite(addr, 2, v)` (R14, R63): low byte first. -/
def State.write16 (s : State) (addr v : Word) : State := (s.write addr (lo8 v)).write (addr + 1) (hi8 v)

/-- `reset()` (R340), in any run state: two bus accesses, no memory written. -/
def State.hostReset (s : State) : State :=
  let t := { s with bus := [] }
  { t.afterRead16 resetVector with
    a := 0x00, x := 0x00, y := 0x00, sp := 0xFD, p := 0x24, pc := t.read16 resetVector
    run := .ready, faultRec := none, cost := none }

/-- The byte writes of a load, in order (R342). -/
def State.writeBytes (s : State) (addr : Word) : List Byte → State
  | [] => s
  | b :: bs => (s.write addr b).writeBytes (addr + 1) bs

/-- `load(bytes)` (R342): the program at LOAD_ADDR, then LOAD_ADDR into the reset vector. A program that does not fit
below 0x10000 breaks the precondition and is refused (D25, 93_implementation_defined.md). -/
def State.hostLoad (s : State) (bytes : List Byte) : Host.Outcome State Fault Refusal :=
  if s.cfg.loadAddr.toNat + bytes.length ≤ 65536 then
    .next (({ s with bus := [] }.writeBytes s.cfg.loadAddr bytes).write16 resetVector s.cfg.loadAddr)
  else .refused (.loadDoesNotFit bytes.length)

/-- `run(fuel)` (R145): repeats step while READY and fewer than fuel steps have been taken. -/
def run : Nat → State → Host.Outcome State Fault Refusal
  | 0, s => .next s
  | fuel + 1, s =>
    if s.run = .ready then
      match step s with
      | .next t => run fuel t
      | .fault r => .fault r
      | .refused r => .refused r
    else .next s

/-- `load_and_run(bytes, fuel)` (R343). -/
def loadAndRun (s : State) (bytes : List Byte) (fuel : Nat) : Host.Outcome State Fault Refusal :=
  match s.hostLoad bytes with
  | .next t => run fuel t.hostReset
  | .fault r => .fault r
  | .refused r => .refused r

end Sys2Proof.Machine
end

