-- ==== Sys2Proof/Safety.lean ====
section
/-! DEFINITION. What counts as a good end of a run and what a host observes of it (R146, D35), and the invariant that
every step keeps. -/

namespace Sys2Proof.Machine

/-- A run has ended successfully exactly when the run state is HALTED (R146). -/
def State.endedWell (s : State) : Bool := s.run == .halted

/-- The observation of the end of a run (R146, D35): registers, memory and run state. -/
structure Observation where
  a : Byte
  x : Byte
  y : Byte
  sp : Byte
  p : Byte
  pc : Word
  mem : Memory
  run : RunState
deriving DecidableEq, Repr

/-- What the host inspects after a run (R146). -/
def State.observe (s : State) : Observation := ⟨s.a, s.x, s.y, s.sp, s.p, s.pc, s.mem, s.run⟩

/-- A fault record that the engine can have made: UnmappedOpcode, under STRICT_DECODE, for one of the unmapped values
(R320). ImpliedResolve is not among them: no entry of the table calls the resolver with Implied (R120, R321). -/
def FaultRecord.possible (cfg : Config) (r : FaultRecord) : Bool :=
  r.reason == .unmappedOpcode && cfg.strictDecode && (entryOf r.opcode).cls == .unmapped

/-- The invariant of the machine: the backing store is in its canonical form and within its size, a fault record is
there exactly in FAULTED and is one the engine can have made, and a stopped machine puts out no cost. -/
structure State.Inv (s : State) : Prop where
  memWf : s.mem.wf s.cfg.memInit (storeSize s.cfg.memMap) = true
  recordInFaulted : s.run = .faulted ↔ s.faultRec.isSome = true
  recordPossible : s.faultRec.all (FaultRecord.possible s.cfg) = true
  stoppedNoCost : s.run ≠ .ready → s.cost = none

end Sys2Proof.Machine
end

