-- ==== Sys2Proof/Certificates/Slice0/Obligations.lean ====
section
/-! DEFINITION. The statements about the machine, for the provers: what each instruction does and leaves alone, what a
step does, and the rules of the whole machine. The forms and predicates they are written with stand first. An
instruction runs at the state after its fetch, where PC = pc1, the address just past its opcode (R136, R144). -/

namespace Sys2Proof.Claims

open Sys2Proof.Machine

/-- One encoding of an instruction rule: the opcode byte, the instruction of the bytes op, l, h, and its operand. -/
structure Form where
  op    : Byte
  instr : Instr
  arg   : Operand

/-- The encodings of LDA (R160). -/
def ldaForms (l h : Byte) : List Form :=
  [⟨0xA1, .ldaIndx l, .indx l⟩, ⟨0xA5, .ldaZp l, .zp l⟩, ⟨0xA9, .ldaImm l, .imm l⟩,
   ⟨0xAD, .ldaAbs (word16 h l), .abs (word16 h l)⟩, ⟨0xB1, .ldaIndy l, .indy l⟩,
   ⟨0xB5, .ldaZpx l, .zpx l⟩, ⟨0xB9, .ldaAbsy (word16 h l), .absy (word16 h l)⟩,
   ⟨0xBD, .ldaAbsx (word16 h l), .absx (word16 h l)⟩]

/-- The encodings of LDX (R161). -/
def ldxForms (l h : Byte) : List Form :=
  [⟨0xA2, .ldxImm l, .imm l⟩, ⟨0xA6, .ldxZp l, .zp l⟩, ⟨0xAE, .ldxAbs (word16 h l), .abs (word16 h l)⟩,
   ⟨0xB6, .ldxZpy l, .zpy l⟩, ⟨0xBE, .ldxAbsy (word16 h l), .absy (word16 h l)⟩]

/-- The encodings of LDY (R162). -/
def ldyForms (l h : Byte) : List Form :=
  [⟨0xA0, .ldyImm l, .imm l⟩, ⟨0xA4, .ldyZp l, .zp l⟩, ⟨0xAC, .ldyAbs (word16 h l), .abs (word16 h l)⟩,
   ⟨0xB4, .ldyZpx l, .zpx l⟩, ⟨0xBC, .ldyAbsx (word16 h l), .absx (word16 h l)⟩]

/-- The encodings of STA (R163). -/
def staForms (l h : Byte) : List Form :=
  [⟨0x81, .staIndx l, .indx l⟩, ⟨0x85, .staZp l, .zp l⟩,
   ⟨0x8D, .staAbs (word16 h l), .abs (word16 h l)⟩, ⟨0x91, .staIndy l, .indy l⟩,
   ⟨0x95, .staZpx l, .zpx l⟩, ⟨0x99, .staAbsy (word16 h l), .absy (word16 h l)⟩,
   ⟨0x9D, .staAbsx (word16 h l), .absx (word16 h l)⟩]

/-- The encodings of STX (R164). -/
def stxForms (l h : Byte) : List Form :=
  [⟨0x86, .stxZp l, .zp l⟩, ⟨0x8E, .stxAbs (word16 h l), .abs (word16 h l)⟩, ⟨0x96, .stxZpy l, .zpy l⟩]

/-- The encodings of STY (R165). -/
def styForms (l h : Byte) : List Form :=
  [⟨0x84, .styZp l, .zp l⟩, ⟨0x8C, .styAbs (word16 h l), .abs (word16 h l)⟩, ⟨0x94, .styZpx l, .zpx l⟩]

/-- The encodings of ADC (R183). -/
def adcForms (l h : Byte) : List Form :=
  [⟨0x61, .adcIndx l, .indx l⟩, ⟨0x65, .adcZp l, .zp l⟩, ⟨0x69, .adcImm l, .imm l⟩,
   ⟨0x6D, .adcAbs (word16 h l), .abs (word16 h l)⟩, ⟨0x71, .adcIndy l, .indy l⟩,
   ⟨0x75, .adcZpx l, .zpx l⟩, ⟨0x79, .adcAbsy (word16 h l), .absy (word16 h l)⟩,
   ⟨0x7D, .adcAbsx (word16 h l), .absx (word16 h l)⟩]

/-- The encodings of SBC (R184). -/
def sbcForms (l h : Byte) : List Form :=
  [⟨0xE1, .sbcIndx l, .indx l⟩, ⟨0xE5, .sbcZp l, .zp l⟩, ⟨0xE9, .sbcImm l, .imm l⟩,
   ⟨0xED, .sbcAbs (word16 h l), .abs (word16 h l)⟩, ⟨0xF1, .sbcIndy l, .indy l⟩,
   ⟨0xF5, .sbcZpx l, .zpx l⟩, ⟨0xF9, .sbcAbsy (word16 h l), .absy (word16 h l)⟩,
   ⟨0xFD, .sbcAbsx (word16 h l), .absx (word16 h l)⟩]

/-- The encodings of CMP (R186). -/
def cmpForms (l h : Byte) : List Form :=
  [⟨0xC1, .cmpIndx l, .indx l⟩, ⟨0xC5, .cmpZp l, .zp l⟩, ⟨0xC9, .cmpImm l, .imm l⟩,
   ⟨0xCD, .cmpAbs (word16 h l), .abs (word16 h l)⟩, ⟨0xD1, .cmpIndy l, .indy l⟩,
   ⟨0xD5, .cmpZpx l, .zpx l⟩, ⟨0xD9, .cmpAbsy (word16 h l), .absy (word16 h l)⟩,
   ⟨0xDD, .cmpAbsx (word16 h l), .absx (word16 h l)⟩]

/-- The encodings of CPX (R187). -/
def cpxForms (l h : Byte) : List Form :=
  [⟨0xE0, .cpxImm l, .imm l⟩, ⟨0xE4, .cpxZp l, .zp l⟩, ⟨0xEC, .cpxAbs (word16 h l), .abs (word16 h l)⟩]

/-- The encodings of CPY (R188). -/
def cpyForms (l h : Byte) : List Form :=
  [⟨0xC0, .cpyImm l, .imm l⟩, ⟨0xC4, .cpyZp l, .zp l⟩, ⟨0xCC, .cpyAbs (word16 h l), .abs (word16 h l)⟩]

/-- The encodings of INC (R189). -/
def incForms (l h : Byte) : List Form :=
  [⟨0xE6, .incZp l, .zp l⟩, ⟨0xEE, .incAbs (word16 h l), .abs (word16 h l)⟩, ⟨0xF6, .incZpx l, .zpx l⟩,
   ⟨0xFE, .incAbsx (word16 h l), .absx (word16 h l)⟩]

/-- The encodings of DEC (R190). -/
def decForms (l h : Byte) : List Form :=
  [⟨0xC6, .decZp l, .zp l⟩, ⟨0xCE, .decAbs (word16 h l), .abs (word16 h l)⟩, ⟨0xD6, .decZpx l, .zpx l⟩,
   ⟨0xDE, .decAbsx (word16 h l), .absx (word16 h l)⟩]

/-- The encodings of AND (R211). -/
def andForms (l h : Byte) : List Form :=
  [⟨0x21, .andIndx l, .indx l⟩, ⟨0x25, .andZp l, .zp l⟩, ⟨0x29, .andImm l, .imm l⟩,
   ⟨0x2D, .andAbs (word16 h l), .abs (word16 h l)⟩, ⟨0x31, .andIndy l, .indy l⟩,
   ⟨0x35, .andZpx l, .zpx l⟩, ⟨0x39, .andAbsy (word16 h l), .absy (word16 h l)⟩,
   ⟨0x3D, .andAbsx (word16 h l), .absx (word16 h l)⟩]

/-- The encodings of ORA (R212). -/
def oraForms (l h : Byte) : List Form :=
  [⟨0x01, .oraIndx l, .indx l⟩, ⟨0x05, .oraZp l, .zp l⟩, ⟨0x09, .oraImm l, .imm l⟩,
   ⟨0x0D, .oraAbs (word16 h l), .abs (word16 h l)⟩, ⟨0x11, .oraIndy l, .indy l⟩,
   ⟨0x15, .oraZpx l, .zpx l⟩, ⟨0x19, .oraAbsy (word16 h l), .absy (word16 h l)⟩,
   ⟨0x1D, .oraAbsx (word16 h l), .absx (word16 h l)⟩]

/-- The encodings of EOR (R213). -/
def eorForms (l h : Byte) : List Form :=
  [⟨0x41, .eorIndx l, .indx l⟩, ⟨0x45, .eorZp l, .zp l⟩, ⟨0x49, .eorImm l, .imm l⟩,
   ⟨0x4D, .eorAbs (word16 h l), .abs (word16 h l)⟩, ⟨0x51, .eorIndy l, .indy l⟩,
   ⟨0x55, .eorZpx l, .zpx l⟩, ⟨0x59, .eorAbsy (word16 h l), .absy (word16 h l)⟩,
   ⟨0x5D, .eorAbsx (word16 h l), .absx (word16 h l)⟩]

/-- The encodings of BIT (R214). -/
def bitForms (l h : Byte) : List Form :=
  [⟨0x24, .bitZp l, .zp l⟩, ⟨0x2C, .bitAbs (word16 h l), .abs (word16 h l)⟩]

/-- The encodings of ASL (R216) with a memory operand. -/
def aslForms (l h : Byte) : List Form :=
  [⟨0x06, .aslZp l, .zp l⟩, ⟨0x0E, .aslAbs (word16 h l), .abs (word16 h l)⟩, ⟨0x16, .aslZpx l, .zpx l⟩,
   ⟨0x1E, .aslAbsx (word16 h l), .absx (word16 h l)⟩]

/-- The encodings of LSR (R217) with a memory operand. -/
def lsrForms (l h : Byte) : List Form :=
  [⟨0x46, .lsrZp l, .zp l⟩, ⟨0x4E, .lsrAbs (word16 h l), .abs (word16 h l)⟩, ⟨0x56, .lsrZpx l, .zpx l⟩,
   ⟨0x5E, .lsrAbsx (word16 h l), .absx (word16 h l)⟩]

/-- The encodings of ROL (R218) with a memory operand. -/
def rolForms (l h : Byte) : List Form :=
  [⟨0x26, .rolZp l, .zp l⟩, ⟨0x2E, .rolAbs (word16 h l), .abs (word16 h l)⟩, ⟨0x36, .rolZpx l, .zpx l⟩,
   ⟨0x3E, .rolAbsx (word16 h l), .absx (word16 h l)⟩]

/-- The encodings of ROR (R219) with a memory operand. -/
def rorForms (l h : Byte) : List Form :=
  [⟨0x66, .rorZp l, .zp l⟩, ⟨0x6E, .rorAbs (word16 h l), .abs (word16 h l)⟩, ⟨0x76, .rorZpx l, .zpx l⟩,
   ⟨0x7E, .rorAbsx (word16 h l), .absx (word16 h l)⟩]

/-- The encodings of SLO (R281). -/
def sloForms (l h : Byte) : List Form :=
  [⟨0x03, .sloIndx l, .indx l⟩, ⟨0x07, .sloZp l, .zp l⟩,
   ⟨0x0F, .sloAbs (word16 h l), .abs (word16 h l)⟩, ⟨0x13, .sloIndy l, .indy l⟩,
   ⟨0x17, .sloZpx l, .zpx l⟩, ⟨0x1B, .sloAbsy (word16 h l), .absy (word16 h l)⟩,
   ⟨0x1F, .sloAbsx (word16 h l), .absx (word16 h l)⟩]

/-- The encodings of RLA (R282). -/
def rlaForms (l h : Byte) : List Form :=
  [⟨0x23, .rlaIndx l, .indx l⟩, ⟨0x27, .rlaZp l, .zp l⟩,
   ⟨0x2F, .rlaAbs (word16 h l), .abs (word16 h l)⟩, ⟨0x33, .rlaIndy l, .indy l⟩,
   ⟨0x37, .rlaZpx l, .zpx l⟩, ⟨0x3B, .rlaAbsy (word16 h l), .absy (word16 h l)⟩,
   ⟨0x3F, .rlaAbsx (word16 h l), .absx (word16 h l)⟩]

/-- The encodings of SRE (R283). -/
def sreForms (l h : Byte) : List Form :=
  [⟨0x43, .sreIndx l, .indx l⟩, ⟨0x47, .sreZp l, .zp l⟩,
   ⟨0x4F, .sreAbs (word16 h l), .abs (word16 h l)⟩, ⟨0x53, .sreIndy l, .indy l⟩,
   ⟨0x57, .sreZpx l, .zpx l⟩, ⟨0x5B, .sreAbsy (word16 h l), .absy (word16 h l)⟩,
   ⟨0x5F, .sreAbsx (word16 h l), .absx (word16 h l)⟩]

/-- The encodings of RRA (R284). -/
def rraForms (l h : Byte) : List Form :=
  [⟨0x63, .rraIndx l, .indx l⟩, ⟨0x67, .rraZp l, .zp l⟩,
   ⟨0x6F, .rraAbs (word16 h l), .abs (word16 h l)⟩, ⟨0x73, .rraIndy l, .indy l⟩,
   ⟨0x77, .rraZpx l, .zpx l⟩, ⟨0x7B, .rraAbsy (word16 h l), .absy (word16 h l)⟩,
   ⟨0x7F, .rraAbsx (word16 h l), .absx (word16 h l)⟩]

/-- The encodings of SAX (R285). -/
def saxForms (l h : Byte) : List Form :=
  [⟨0x83, .saxIndx l, .indx l⟩, ⟨0x87, .saxZp l, .zp l⟩,
   ⟨0x8F, .saxAbs (word16 h l), .abs (word16 h l)⟩, ⟨0x97, .saxZpy l, .zpy l⟩]

/-- The encodings of LAX (R286). -/
def laxForms (l h : Byte) : List Form :=
  [⟨0xA3, .laxIndx l, .indx l⟩, ⟨0xA7, .laxZp l, .zp l⟩,
   ⟨0xAF, .laxAbs (word16 h l), .abs (word16 h l)⟩, ⟨0xB3, .laxIndy l, .indy l⟩,
   ⟨0xB7, .laxZpy l, .zpy l⟩, ⟨0xBF, .laxAbsy (word16 h l), .absy (word16 h l)⟩]

/-- The encodings of DCP (R287). -/
def dcpForms (l h : Byte) : List Form :=
  [⟨0xC3, .dcpIndx l, .indx l⟩, ⟨0xC7, .dcpZp l, .zp l⟩,
   ⟨0xCF, .dcpAbs (word16 h l), .abs (word16 h l)⟩, ⟨0xD3, .dcpIndy l, .indy l⟩,
   ⟨0xD7, .dcpZpx l, .zpx l⟩, ⟨0xDB, .dcpAbsy (word16 h l), .absy (word16 h l)⟩,
   ⟨0xDF, .dcpAbsx (word16 h l), .absx (word16 h l)⟩]

/-- The encodings of ISB (R288). -/
def isbForms (l h : Byte) : List Form :=
  [⟨0xE3, .isbIndx l, .indx l⟩, ⟨0xE7, .isbZp l, .zp l⟩,
   ⟨0xEF, .isbAbs (word16 h l), .abs (word16 h l)⟩, ⟨0xF3, .isbIndy l, .indy l⟩,
   ⟨0xF7, .isbZpx l, .zpx l⟩, ⟨0xFB, .isbAbsy (word16 h l), .absy (word16 h l)⟩,
   ⟨0xFF, .isbAbsx (word16 h l), .absx (word16 h l)⟩]

/-- The encodings of ANC (R289). -/
def ancForms (l _h : Byte) : List Form :=
  [⟨0x0B, .ancImm0B l, .imm l⟩, ⟨0x2B, .ancImm2B l, .imm l⟩]

/-- The encodings of SHA (R298). -/
def shaForms (l h : Byte) : List Form :=
  [⟨0x93, .shaIndy l, .indy l⟩, ⟨0x9F, .shaAbsy (word16 h l), .absy (word16 h l)⟩]

/-- The encodings of the undocumented NOPs with an operand (R301). -/
def nopForms (l h : Byte) : List Form :=
  [⟨0x04, .nopZp04 l, .zp l⟩, ⟨0x0C, .nopAbs (word16 h l), .abs (word16 h l)⟩,
   ⟨0x14, .nopZpx14 l, .zpx l⟩, ⟨0x1C, .nopAbsx1C (word16 h l), .absx (word16 h l)⟩,
   ⟨0x34, .nopZpx34 l, .zpx l⟩, ⟨0x3C, .nopAbsx3C (word16 h l), .absx (word16 h l)⟩,
   ⟨0x44, .nopZp44 l, .zp l⟩, ⟨0x54, .nopZpx54 l, .zpx l⟩,
   ⟨0x5C, .nopAbsx5C (word16 h l), .absx (word16 h l)⟩, ⟨0x64, .nopZp64 l, .zp l⟩,
   ⟨0x74, .nopZpx74 l, .zpx l⟩, ⟨0x7C, .nopAbsx7C (word16 h l), .absx (word16 h l)⟩,
   ⟨0x80, .nopImm80 l, .imm l⟩, ⟨0x82, .nopImm82 l, .imm l⟩, ⟨0x89, .nopImm89 l, .imm l⟩,
   ⟨0xC2, .nopImmC2 l, .imm l⟩, ⟨0xD4, .nopZpxD4 l, .zpx l⟩,
   ⟨0xDC, .nopAbsxDC (word16 h l), .absx (word16 h l)⟩, ⟨0xE2, .nopImmE2 l, .imm l⟩,
   ⟨0xF4, .nopZpxF4 l, .zpx l⟩, ⟨0xFC, .nopAbsxFC (word16 h l), .absx (word16 h l)⟩]

/-- The unmapped values with their instructions (R101). -/
def unmappedForms : List (Byte × Instr) :=
  [(0x02, .jam02), (0x12, .jam12), (0x22, .jam22), (0x32, .jam32), (0x42, .jam42), (0x52, .jam52),
   (0x62, .jam62), (0x72, .jam72), (0x92, .jam92), (0xB2, .jamB2), (0xD2, .jamD2), (0xF2, .jamF2)]

/-- The decoder reads instruction i from the bytes op, l, h. -/
def ReadsAs (op l h : Byte) (i : Instr) : Prop := ∃ rest, decode [op, l, h] = .ok (i, rest)

/-- The resolver's accesses (R118, R119): the two pointer reads of the indirect modes. -/
def pointerReads (s : State) : Operand → List BusEvent
  | .indx a => [⟨.read, zext16 (a + s.x), s.read (zext16 (a + s.x))⟩,
      ⟨.read, zext16 (a + s.x + 1), s.read (zext16 (a + s.x + 1))⟩]
  | .indy a => [⟨.read, zext16 a, s.read (zext16 a)⟩, ⟨.read, zext16 (a + 1), s.read (zext16 (a + 1))⟩]
  | _ => []

/-- The accesses of a form that reads one data byte (R74): the resolver's, then the read of M; an immediate M has been
read by the fetch (log entry 4), and an implied form reads nothing. -/
def reads (s : State) (o : Operand) : List BusEvent :=
  pointerReads s o ++ (match o with
    | .imm _ | .implied => []
    | o => [⟨.read, s.ea o, s.operandVal o⟩])

/-- The accesses of a form that writes the byte v to ea (R74). -/
def writes (s : State) (o : Operand) (v : Byte) : List BusEvent := pointerReads s o ++ [⟨.write, s.ea o, v⟩]

/-- The accesses of a read-modify-write that writes back v (R74, R220): one read of ea, then one write of it. -/
def modifies (s : State) (o : Operand) (v : Byte) : List BusEvent := reads s o ++ [⟨.write, s.ea o, v⟩]

/-- Instruction i completes from s in state u, but that PC is the address after the instruction, the cost is put out,
the bus record has the accesses acc added, and one free draw is used up for each read of the peripheral window among
them (R66). -/
def Runs (i : Instr) (s u : State) (acc : List BusEvent) : Prop :=
  exec i s = .next { u with
    pc := s.pc + BitVec.ofNat 16 ((encode i).length - 1), cost := some i.entry.cycles
    bus := s.bus ++ acc, draws := s.draws + drawsOf s.cfg.memMap acc }

/-- The PC after i has written target to it at s (R138, R140): target, but under ADVANCE_POLICY = compare a target
equal to pc1 is followed by the advance. -/
def pcAfterJump (i : Instr) (s : State) (target : Word) : Word :=
  if s.cfg.advancePolicy = .compare ∧ target = s.pc then s.pc + BitVec.ofNat 16 ((encode i).length - 1) else target

/-- Instruction i completes from s in state u, but that PC is what writing target gives, and the rest as in Runs. -/
def RunsTo (i : Instr) (s u : State) (target : Word) (acc : List BusEvent) : Prop :=
  exec i s = .next { u with
    pc := pcAfterJump i s target, cost := some i.entry.cycles
    bus := s.bus ++ acc, draws := s.draws + drawsOf s.cfg.memMap acc }

/-- P went from p to q and no flag outside fs changed. -/
def OnlyFlags (fs : List Flag) (p q : Byte) : Prop := ∀ f, f ∉ fs → getFlag f q = getFlag f p

/-- N and Z of q are those of the value v (R40). -/
def FlagsOf (v q : Byte) : Prop := getFlag .n q = v.getLsbD 7 ∧ getFlag .z q = (v == 0x00)

/-- f completes in u with P set to N and Z of v and no other flag changed, and makes the accesses acc. -/
def Yields (f : Form) (l h : Byte) (s u : State) (v : Byte) (acc : List BusEvent) : Prop :=
  ReadsAs f.op l h f.instr ∧
  ∃ p, Runs f.instr s { u with p := p } acc ∧ FlagsOf v p ∧ OnlyFlags [.n, .z] s.p p

/-- mem is the backing store of s with byte v written to addr: where addr is backed it holds v, every address that
does not share its place holds what it held, and a write to an address without a place changes nothing. -/
def Stored (s : State) (mem : Memory) (addr : Word) (v : Byte) : Prop :=
  (∀ k, routeOf s.cfg.memMap addr = .ram k → { s with mem := mem }.peek addr = some v) ∧
  (∀ other, routeOf s.cfg.memMap other ≠ routeOf s.cfg.memMap addr →
    { s with mem := mem }.peek other = s.peek other) ∧
  ((∀ k, routeOf s.cfg.memMap addr ≠ .ram k) → mem = s.mem)

/-- f stores v at ea, makes the accesses of that and changes nothing else. -/
def Stores (f : Form) (l h : Byte) (s : State) (v : Byte) : Prop :=
  ReadsAs f.op l h f.instr ∧
  ∃ mem, Runs f.instr s { s with mem := mem } (writes s f.arg v) ∧ Stored s mem (s.ea f.arg) v

/-- (r, q) is the outcome of the adder with operand m on A and P of s (R180, R181). -/
def Added (a m p r q : Byte) : Prop :=
  let sum := a.toNat + m.toNat + (if getFlag .c p then 1 else 0)
  r = BitVec.ofNat 8 sum ∧ getFlag .c q = decide (255 < sum) ∧
  getFlag .v q = (a.getLsbD 7 == m.getLsbD 7 && r.getLsbD 7 != a.getLsbD 7) ∧
  FlagsOf r q ∧ OnlyFlags [.c, .v, .n, .z] p q

/-- q is P after the comparison of reg with m (R185). -/
def Compared (reg m p q : Byte) : Prop :=
  getFlag .c q = decide (m.toNat ≤ reg.toNat) ∧ getFlag .z q = (reg == m) ∧
  getFlag .n q = (reg - m).getLsbD 7 ∧ OnlyFlags [.c, .z, .n] p q

/-- The operand that SBC hands to the adder (R184). -/
def subtrahend (s : State) (m : Byte) : Byte :=
  if s.cfg.sbcForm = .complement then ~~~m else ~~~m - 1

/-- f subtracts its operand from A (R184). -/
def Subtracts (f : Form) (l h : Byte) (s : State) : Prop :=
  ReadsAs f.op l h f.instr ∧
  ∃ r p, Runs f.instr s { s with a := r, p := p } (reads s f.arg) ∧
    Added s.a (subtrahend s (s.operandVal f.arg)) s.p r p ∧
    (s.cfg.sbcForm = .complement →
      r = s.a - s.operandVal f.arg - (if getFlag .c s.p then 0 else 1) ∧
      getFlag .c p = decide ((s.operandVal f.arg).toNat + (if getFlag .c s.p then 0 else 1) ≤ s.a.toNat))

/-- A shift of R215: its result from the byte and the carry, and the bit it moves into C. -/
structure Shift where
  result : Byte → Bool → Byte
  out    : Byte → Bool

def asl : Shift := ⟨fun v _ => v <<< 1, fun v => v.getLsbD 7⟩
def lsr : Shift := ⟨fun v _ => v >>> 1, fun v => v.getLsbD 0⟩
def rol : Shift := ⟨fun v c => (v <<< 1) ||| (if c then 0x01 else 0x00), fun v => v.getLsbD 7⟩
def ror : Shift := ⟨fun v c => (v >>> 1) ||| (if c then 0x80 else 0x00), fun v => v.getLsbD 0⟩

/-- q is P after the shift of v: C is the bit shifted out, N and Z are the result's (R215). -/
def ShiftFlags (k : Shift) (v p q : Byte) : Prop :=
  getFlag .c q = k.out v ∧ FlagsOf (k.result v (getFlag .c p)) q ∧ OnlyFlags [.c, .n, .z] p q

/-- The mnemonics whose rules write a flag (R38, with B and b5 written by PLP and RTI alone). -/
def flagWriters : Flag → List Mnemonic
  | .n | .z => [.lda, .ldx, .ldy, .tax, .tay, .txa, .tya, .tsx, .pla, .adc, .sbc, .cmp, .cpx, .cpy, .inc, .dec, .inx,
      .iny, .dex, .dey, .and, .ora, .eor, .asl, .lsr, .rol, .ror, .bit, .slo, .rla, .sre, .rra, .lax, .dcp, .isb, .anc,
      .alr, .arr, .sbx, .usbc, .xaa, .lxa, .las, .plp, .rti]
  | .v => [.adc, .sbc, .bit, .clv, .rra, .isb, .arr, .usbc, .plp, .rti]
  | .b5 | .b => [.plp, .rti]
  | .d => [.sed, .cld, .plp, .rti]
  | .i => [.sei, .cli, .plp, .rti]
  | .c => [.adc, .sbc, .cmp, .cpx, .cpy, .asl, .lsr, .rol, .ror, .clc, .sec, .slo, .rla, .sre, .rra, .dcp, .isb, .anc,
      .alr, .arr, .sbx, .usbc, .plp, .rti]

/-- The mnemonics that write A, X, Y and SP (R30). -/
def aWriters : List Mnemonic :=
  [.lda, .txa, .tya, .pla, .adc, .sbc, .and, .ora, .eor, .asl, .lsr, .rol, .ror, .lax, .slo, .rla, .sre, .rra, .isb,
   .anc, .alr, .arr, .usbc, .xaa, .lxa, .las]
def xWriters : List Mnemonic := [.ldx, .tax, .tsx, .inx, .dex, .lax, .sbx, .lxa, .las]
def yWriters : List Mnemonic := [.ldy, .tay, .iny, .dey]
def spWriters : List Mnemonic := [.txs, .pha, .php, .pla, .plp, .jsr, .rts, .rti, .tas, .las]

/-- The mnemonics that write memory: the stores, the pushes and the read-modify-writes. -/
def memWriters : List Mnemonic :=
  [.sta, .stx, .sty, .inc, .dec, .asl, .lsr, .rol, .ror, .pha, .php, .jsr, .slo, .rla, .sre, .rra, .dcp, .isb, .sax,
   .tas, .sha, .shx, .shy]

/-- The mnemonics that may write PC, and BRK, which stops (R137, R143). -/
def transfers : List Mnemonic := [.jmp, .jsr, .rts, .rti, .bpl, .bmi, .bvc, .bvs, .bcc, .bcs, .bne, .beq, .brk]

/-- t is s but for bits of P outside mask. -/
def AgreeUnder (mask : Byte) (s t : State) : Prop := t = { s with p := t.p } ∧ s.p &&& mask = t.p &&& mask

/-- Two outcomes of the same kind, with next states that agree under mask and equal reasons otherwise. -/
def SameOutcome (mask : Byte) (o o' : Host.Outcome State Fault Refusal) : Prop :=
  match o, o' with
  | .next s, .next t => AgreeUnder mask s t
  | .fault r, .fault r' => r = r'
  | .refused r, .refused r' => r = r'
  | .next _, .fault _ | .next _, .refused _ | .fault _, .next _ | .fault _, .refused _ | .refused _, .next _
  | .refused _, .fault _ => False

/-- The base cost of a table entry by R347, 46_undocumented.md and R104. -/
def costRule (e : Entry) : Nat :=
  if e.mnemonic ∈ [.asl, .lsr, .rol, .ror, .inc, .dec, .slo, .rla, .sre, .rra, .dcp, .isb] then
    match e.mode with
    | .zeroPage => 5 | .zeroPageX => 6 | .absolute => 6 | .absoluteX | .absoluteY => 7 | .indirectX | .indirectY => 8
    | .implied | .immediate | .zeroPageY => 2
  else if e.mnemonic ∈ [.sta, .stx, .sty, .sax, .tas, .sha, .shx, .shy] then
    match e.mode with
    | .zeroPage => 3 | .zeroPageX | .zeroPageY | .absolute => 4 | .absoluteX | .absoluteY => 5
    | .indirectX | .indirectY => 6 | .implied | .immediate => 2
  else match e.mnemonic with
    | .jam => 1
    | .brk => 7
    | .jsr | .rts | .rti => 6
    | .pha | .php => 3
    | .pla | .plp => 4
    | .jmp => if e.mode = .absolute then 3 else 5
    | _ => match e.mode with
      | .implied | .immediate => 2 | .zeroPage => 3 | .zeroPageX | .zeroPageY => 4
      | .absolute | .absoluteX | .absoluteY => 4 | .indirectX => 6 | .indirectY => 5

/-- The byte H + 1 of R297 to R300, from the base address before indexing. -/
def hPlusOne (s : State) (o : Operand) : Byte :=
  match o with
  | .absx w | .absy w => hi8 w + 1
  | .indy a => s.read (zext16 (a + 1)) + 1
  | _ => 0x00

end Sys2Proof.Claims

open Sys2Proof Sys2Proof.Machine Sys2Proof.Claims

/-! ### Encoding -/

/-- R90, R91: words written out from the spec's encodings decode to the instructions they stand for, one of each
family and of each operand form. -/
def Obligations.DecodeReadsSpecWords : Prop :=
  decodeTableWord 16 0x43A9 = some (.ldaImm 0x43) ∧ decodeTableWord 16 0x1085 = some (.staZp 0x10) ∧
  decodeTableWord 16 0xF0B5 = some (.ldaZpx 0xF0) ∧ decodeTableWord 16 0xFF96 = some (.stxZpy 0xFF) ∧
  decodeTableWord 8 0xAA = some .tax ∧
  decodeTableWord 16 0x0369 = some (.adcImm 0x03) ∧ decodeTableWord 24 0x01FF5E = some (.lsrAbsx 0x01FF) ∧
  decodeTableWord 8 0x0A = some .aslAcc ∧ decodeTableWord 24 0x02002C = some (.bitAbs 0x0200) ∧
  decodeTableWord 8 0x48 = some .pha ∧ decodeTableWord 24 0x070020 = some (.jsrAbs 0x0700) ∧
  decodeTableWord 24 0x02FF6C = some (.jmpInd 0x02FF) ∧ decodeTableWord 16 0xFED0 = some (.bneRel 0xFE) ∧
  decodeTableWord 16 0xFEA1 = some (.ldaIndx 0xFE) ∧ decodeTableWord 16 0xFFB1 = some (.ldaIndy 0xFF) ∧
  decodeTableWord 24 0x12FF9F = some (.shaAbsy 0x12FF) ∧ decodeTableWord 8 0x02 = some .jam02 ∧
  decodeTableWord 8 0x00 = some .brk

/-- R90: decoding the bytes of an instruction, whatever follows them, gives that instruction and what follows. -/
def Obligations.DecodeOfEncodeIsIdentity : Prop :=
  ∀ (i : Instr) (rest : List Byte), decode (encode i ++ rest) = .ok (i, rest)

/-- R90, R92: whatever decodes, decodes from the bytes of the instruction it gives, so every word has one meaning, and
a list of bytes fails to decode only when the bytes its opcode asks for are not there. -/
def Obligations.EncodeOfDecodeIsIdentity : Prop :=
  ∀ bytes : List Byte,
    (∀ i rest, decode bytes = .ok (i, rest) → bytes = encode i ++ rest) ∧
    (∀ op rest, bytes = op :: rest → (entryOf op).len ≤ bytes.length → ∃ i r, decode bytes = .ok (i, r))

/-- R94, R101, R104: the 12 unmapped values are the listed ones, the classes count 151, 93 and 12, every instruction
has length 1 to 3, and its bytes are as many as its length. -/
def Obligations.OpcodeClassesAsListed : Prop :=
  (∀ op : Byte, (entryOf op).cls = .unmapped ↔ op ∈ unmappedForms.map Prod.fst) ∧
  ((List.range 256).countP fun n => (entryOf (BitVec.ofNat 8 n)).cls == .official) = 151 ∧
  ((List.range 256).countP fun n => (entryOf (BitVec.ofNat 8 n)).cls == .undocumented) = 93 ∧
  ((List.range 256).countP fun n => (entryOf (BitVec.ofNat 8 n)).cls == .unmapped) = 12 ∧
  ∀ i : Instr, 1 ≤ i.entry.len ∧ i.entry.len ≤ 3 ∧ (encode i).length = i.entry.len

/-- R347, R349, R104 and the costs of 46_undocumented.md: the base cost of every opcode value. -/
def Obligations.CostsFollowTimingRule : Prop := ∀ op : Byte, (entryOf op).cycles = costRule (entryOf op)

/-! ### The step -/

/-- R132, R136, R77: when the bytes held at PC are those of instruction i, a step in READY is exec of i at the state
after the fetch: PC just past the opcode, no cost yet, and the bus record the reads of the instruction's bytes in
order (log entry 4), nothing else changed. -/
def Obligations.StepRunsDecodedInstruction : Prop :=
  ∀ (s : State) (i : Instr), s.run = .ready →
    (∀ k, k < (encode i).length → s.peek (s.pc + BitVec.ofNat 16 k) = some ((encode i).getD k 0)) →
    step s = exec i { s with
      pc := s.pc + 1, cost := none
      bus := (List.range (encode i).length).map fun k => ⟨.read, s.pc + BitVec.ofNat 16 k, (encode i).getD k 0⟩ }

/-- R142 (D30): in HALTED and FAULTED a step does nothing. -/
def Obligations.StoppedMachineStaysPut : Prop :=
  ∀ s : State, s.run = .halted ∨ s.run = .faulted → step s = .next s

/-- R133, R264, R324 (D8): BRK halts with PC = pc1, no cost and nothing else changed, and a step that fetches 0x00 halts
so under every configuration, after the one bus access of its fetch. -/
def Obligations.BrkHaltsUnderEveryConfiguration : Prop :=
  (∀ s : State, exec .brk s = .next { s with run := .halted, cost := none }) ∧
  ∀ s : State, s.run = .ready → s.peek s.pc = some 0x00 →
    step s = .next { s with pc := s.pc + 1, run := .halted, cost := none, bus := [⟨.read, s.pc, 0x00⟩] }

/-- R104, R301 (D10): without STRICT_DECODE and UNDOC_POLICY = refuse, each of the 12 unmapped values runs as a
no-operation of length 1 and cost 1. -/
def Obligations.UnmappedOpcodesRunFallback : Prop :=
  ∀ (l h : Byte) (s : State), s.cfg.strictDecode = false → s.cfg.undocPolicy = .implement →
    ∀ f ∈ unmappedForms, ReadsAs f.1 l h f.2 ∧ exec f.2 s = .next { s with cost := some 1 }

/-- R135, R320 (D26): under STRICT_DECODE, and no refusal before it, each of the 12 unmapped values ends in FAULTED with
the record UnmappedOpcode, the opcode and its address, PC at the fetch address + 1 and nothing else changed. -/
def Obligations.StrictDecodeFaultsOnUnmapped : Prop :=
  ∀ s : State, s.cfg.strictDecode = true → s.cfg.undocPolicy = .implement →
    ∀ f ∈ unmappedForms, exec f.2 s = .next { s with
      run := .faulted, faultRec := some ⟨.unmappedOpcode, f.1, s.pc - 1⟩, cost := none }

/-- R106, R147 (D10): UNDOC_POLICY = refuse refuses every instruction outside the official ones, with its opcode and
address; an instruction is refused in no other case, and never for another reason. -/
def Obligations.RefusePolicyRefusesExactlyUnofficial : Prop :=
  ∀ (i : Instr) (s : State),
    (i.entry.cls ≠ .official → s.cfg.undocPolicy = .refuse →
      exec i s = .refused (.undocumentedRefused ((encode i).getD 0 0) (s.pc - 1))) ∧
    (∀ r, exec i s = .refused r → i.entry.cls ≠ .official ∧ s.cfg.undocPolicy = .refuse)

/-- R322, R139, R101: every official instruction completes under every configuration, every undocumented one under
UNDOC_POLICY = implement, every unmapped value if STRICT_DECODE is off too; none raises a fault, and but for BRK each
stays in its run state and puts out its table cost. -/
def Obligations.EveryInstructionCompletes : Prop :=
  ∀ (i : Instr) (s : State), i.entry.cls = .official ∨ s.cfg.undocPolicy = .implement →
    i.entry.cls ≠ .unmapped ∨ s.cfg.strictDecode = false →
    ∃ t, exec i s = .next t ∧ t.faultRec = s.faultRec ∧ t.cfg = s.cfg ∧
      (i ≠ .brk → t.run = s.run ∧ t.cost = some i.entry.cycles)

/-- R138, R143: an instruction that is no control transfer and completes (puts out its cost) leaves PC at its own address
plus its length, under both advance policies. -/
def Obligations.NonTransfersAdvanceByLength : Prop :=
  ∀ (i : Instr) (s t : State), i.entry.mnemonic ∉ transfers → exec i s = .next t → t.cost ≠ none →
    t.pc = (s.pc - 1) + BitVec.ofNat 16 (encode i).length

/-! ### Addresses and operands -/

/-- R111 to R119, with the operand bytes of the instruction in the place of MemRead(pc1, 1) and MemRead(pc1, 2) (log
entry 4): the effective address of each mode, with its 8-bit or 16-bit wrap. -/
def Obligations.EffectiveAddressesFollowModes : Prop :=
  ∀ (s : State) (a : Byte) (w : Word),
    s.ea (.imm a) = s.pc ∧ s.ea (.zp a) = word16 0x00 a ∧ s.ea (.zpx a) = word16 0x00 (a + s.x) ∧
    s.ea (.zpy a) = word16 0x00 (a + s.y) ∧ s.ea (.abs w) = w ∧
    s.ea (.absx w) = w + word16 0x00 s.x ∧ s.ea (.absy w) = w + word16 0x00 s.y ∧
    (∀ lo hi, s.peek (word16 0x00 (a + s.x)) = some lo → s.peek (word16 0x00 (a + s.x + 1)) = some hi →
      s.ea (.indx a) = word16 hi lo) ∧
    (∀ lo hi, s.peek (word16 0x00 a) = some lo → s.peek (word16 0x00 (a + 1)) = some hi →
      s.ea (.indy a) = word16 hi lo + word16 0x00 s.y) ∧
    s.operandVal (.imm a) = a ∧
    (∀ o m, o.mode ≠ .immediate → s.peek (s.ea o) = some m → s.operandVal o = m)

/-! ### Loads, stores and transfers -/

/-- R160, R161, R162: each encoding of LDA, LDX and LDY loads M into its register, sets N and Z from it, and changes no
other flag, no other register and no memory. An immediate M is read by the fetch (log entry 4), so that its forms make
no access after it. -/
def Obligations.LoadsSetRegisterAndNZ : Prop :=
  ∀ (l h : Byte) (s : State),
    (∀ f ∈ ldaForms l h, Yields f l h s { s with a := s.operandVal f.arg } (s.operandVal f.arg)
      (reads s f.arg)) ∧
    (∀ f ∈ ldxForms l h, Yields f l h s { s with x := s.operandVal f.arg } (s.operandVal f.arg)
      (reads s f.arg)) ∧
    (∀ f ∈ ldyForms l h, Yields f l h s { s with y := s.operandVal f.arg } (s.operandVal f.arg)
      (reads s f.arg))

/-- R163, R164, R165: each encoding of STA, STX and STY writes its register to ea and changes no flag, no register and
no other byte. -/
def Obligations.StoresWriteOneByte : Prop :=
  ∀ (l h : Byte) (s : State),
    (∀ f ∈ staForms l h, Stores f l h s s.a) ∧
    (∀ f ∈ stxForms l h, Stores f l h s s.x) ∧
    (∀ f ∈ styForms l h, Stores f l h s s.y)

/-- R166 to R170: TAX, TAY, TXA, TYA and TSX copy, set N and Z, and change nothing else. -/
def Obligations.TransfersCopyAndSetNZ : Prop :=
  ∀ (l h : Byte) (s : State),
    Yields ⟨0xAA, .tax, .implied⟩ l h s { s with x := s.a } s.a [] ∧
    Yields ⟨0xA8, .tay, .implied⟩ l h s { s with y := s.a } s.a [] ∧
    Yields ⟨0x8A, .txa, .implied⟩ l h s { s with a := s.x } s.x [] ∧
    Yields ⟨0x98, .tya, .implied⟩ l h s { s with a := s.y } s.y [] ∧
    Yields ⟨0xBA, .tsx, .implied⟩ l h s { s with x := s.sp } s.sp []

/-- R171 as 90_conflicts.md C5 decides it: TXS copies X to SP and changes nothing else, no flag included. -/
def Obligations.TxsCopiesWithoutFlags : Prop :=
  ∀ (l h : Byte) (s : State), ReadsAs 0x9A l h .txs ∧ Runs .txs s { s with sp := s.x } []

/-! ### Arithmetic, compare, increment and decrement -/

/-- R183, R180: each encoding of ADC adds M and the carry to A and sets C, V, N and Z by the adder. An immediate M is
read by the fetch (log entry 4), so that its form makes no access after it. -/
def Obligations.AdcAddsWithCarry : Prop :=
  ∀ (l h : Byte) (s : State), ∀ f ∈ adcForms l h, ReadsAs f.op l h f.instr ∧
    ∃ r p, Runs f.instr s { s with a := r, p := p } (reads s f.arg) ∧ Added s.a (s.operandVal f.arg) s.p r p

/-- R184 and R293 with conflict C1 as D12 decides it: each encoding of SBC, and under UNDOC_POLICY = implement USBC,
hands the transformed operand to the adder; in the default form the result is A - M - (1 - C) and C = 0 exactly on a
borrow. An immediate M is read by the fetch (log entry 4), so that its forms make no access after it. -/
def Obligations.SbcSubtractsWithBorrow : Prop :=
  ∀ (l h : Byte) (s : State),
    (∀ f ∈ sbcForms l h, Subtracts f l h s) ∧
    (s.cfg.undocPolicy = .implement → Subtracts ⟨0xEB, .usbcImm l, .imm l⟩ l h s)

/-- R185 to R188: each encoding of CMP, CPX and CPY sets C, Z and N from the unsigned comparison and changes nothing
else. An immediate M is read by the fetch (log entry 4), so that its forms make no access after it. -/
def Obligations.ComparesSetCarryZeroNegative : Prop :=
  ∀ (l h : Byte) (s : State),
    (∀ f ∈ cmpForms l h, ReadsAs f.op l h f.instr ∧
      ∃ p, Runs f.instr s { s with p := p } (reads s f.arg) ∧ Compared s.a (s.operandVal f.arg) s.p p) ∧
    (∀ f ∈ cpxForms l h, ReadsAs f.op l h f.instr ∧
      ∃ p, Runs f.instr s { s with p := p } (reads s f.arg) ∧ Compared s.x (s.operandVal f.arg) s.p p) ∧
    (∀ f ∈ cpyForms l h, ReadsAs f.op l h f.instr ∧
      ∃ p, Runs f.instr s { s with p := p } (reads s f.arg) ∧ Compared s.y (s.operandVal f.arg) s.p p)

/-- R189, R190: each encoding of INC and DEC replaces the byte at ea by its successor or predecessor modulo 256, sets N
and Z from it, and changes no register, no other flag and no other byte. -/
def Obligations.MemoryIncrementAndDecrement : Prop :=
  ∀ (l h : Byte) (s : State),
    (∀ f ∈ incForms l h, ∃ mem, Yields f l h s { s with mem := mem } (s.operandVal f.arg + 1)
        (modifies s f.arg (s.operandVal f.arg + 1)) ∧
      Stored s mem (s.ea f.arg) (s.operandVal f.arg + 1)) ∧
    (∀ f ∈ decForms l h, ∃ mem, Yields f l h s { s with mem := mem } (s.operandVal f.arg - 1)
        (modifies s f.arg (s.operandVal f.arg - 1)) ∧
      Stored s mem (s.ea f.arg) (s.operandVal f.arg - 1))

/-- R191 to R194: INX, INY, DEX and DEY count modulo 256, set N and Z, and change nothing else. -/
def Obligations.RegisterIncrementAndDecrement : Prop :=
  ∀ (l h : Byte) (s : State),
    Yields ⟨0xE8, .inx, .implied⟩ l h s { s with x := s.x + 1 } (s.x + 1) [] ∧
    Yields ⟨0xC8, .iny, .implied⟩ l h s { s with y := s.y + 1 } (s.y + 1) [] ∧
    Yields ⟨0xCA, .dex, .implied⟩ l h s { s with x := s.x - 1 } (s.x - 1) [] ∧
    Yields ⟨0x88, .dey, .implied⟩ l h s { s with y := s.y - 1 } (s.y - 1) []

/-- R181: the adder's V is two's-complement overflow of the signed sum A + m + C, and its C is unsigned overflow. -/
def Obligations.AdderOverflowIsSignedOverflow : Prop :=
  ∀ a m p : Byte,
    let c : Int := if getFlag .c p then 1 else 0
    (getFlag .v (adcCore a m p).2 = true ↔ (adcCore a m p).1.toInt ≠ a.toInt + m.toInt + c) ∧
    (getFlag .c (adcCore a m p).2 = true ↔ ((adcCore a m p).1.toNat : Int) ≠ a.toNat + m.toNat + c)

/-! ### Logic, BIT, shifts and rotates -/

/-- R211, R212, R213: each encoding of AND, ORA and EOR combines M into A, sets N and Z, and changes nothing else. An
immediate M is read by the fetch (log entry 4), so that its forms make no access after it. -/
def Obligations.LogicCombinesIntoA : Prop :=
  ∀ (l h : Byte) (s : State),
    (∀ f ∈ andForms l h, Yields f l h s { s with a := s.a &&& s.operandVal f.arg } (s.a &&& s.operandVal f.arg)
      (reads s f.arg)) ∧
    (∀ f ∈ oraForms l h, Yields f l h s { s with a := s.a ||| s.operandVal f.arg } (s.a ||| s.operandVal f.arg)
      (reads s f.arg)) ∧
    (∀ f ∈ eorForms l h, Yields f l h s { s with a := s.a ^^^ s.operandVal f.arg } (s.a ^^^ s.operandVal f.arg)
      (reads s f.arg))

/-- R214: each encoding of BIT sets Z from A & M, N and V from bits 7 and 6 of M, and changes nothing else. -/
def Obligations.BitTestsAgainstA : Prop :=
  ∀ (l h : Byte) (s : State), ∀ f ∈ bitForms l h, ReadsAs f.op l h f.instr ∧
    ∃ p, Runs f.instr s { s with p := p } (reads s f.arg) ∧
      getFlag .z p = ((s.a &&& s.operandVal f.arg) == 0x00) ∧ getFlag .n p = (s.operandVal f.arg).getLsbD 7 ∧
      getFlag .v p = (s.operandVal f.arg).getLsbD 6 ∧ OnlyFlags [.z, .n, .v] s.p p

/-- R215 to R220: ASL, LSR, ROL and ROR replace the byte at ea, in their memory forms, or A, in their accumulator
forms, by its shift; C gets the bit shifted out, N and Z are the result's, and no other register, flag or byte
changes. -/
def Obligations.ShiftsAndRotates : Prop :=
  ∀ (l h : Byte) (s : State),
    (∀ g ∈ [(asl, aslForms l h), (lsr, lsrForms l h), (rol, rolForms l h), (ror, rorForms l h)], ∀ f ∈ g.2,
      let r := g.1.result (s.operandVal f.arg) (getFlag .c s.p)
      ReadsAs f.op l h f.instr ∧
      ∃ mem p, Runs f.instr s { s with mem := mem, p := p } (modifies s f.arg r) ∧ Stored s mem (s.ea f.arg) r ∧
        ShiftFlags g.1 (s.operandVal f.arg) s.p p) ∧
    (∀ g ∈ [(asl, (0x0A : Byte), Instr.aslAcc), (lsr, 0x4A, .lsrAcc), (rol, 0x2A, .rolAcc), (ror, 0x6A, .rorAcc)],
      ReadsAs g.2.1 l h g.2.2 ∧
      ∃ p, Runs g.2.2 s { s with a := g.1.result s.a (getFlag .c s.p), p := p } [] ∧ ShiftFlags g.1 s.a s.p p)

/-! ### Stack, flags, no-operation -/

/-- R36, R40: P is one stored byte; get and set of each flag at its bit of it, and setNZ. -/
def Obligations.FlagContract : Prop :=
  (∀ p : Byte, getFlag .n p = p.getLsbD 7 ∧ getFlag .v p = p.getLsbD 6 ∧ getFlag .b5 p = p.getLsbD 5 ∧
    getFlag .b p = p.getLsbD 4 ∧ getFlag .d p = p.getLsbD 3 ∧ getFlag .i p = p.getLsbD 2 ∧
    getFlag .z p = p.getLsbD 1 ∧ getFlag .c p = p.getLsbD 0) ∧
  (∀ (f : Flag) (on : Bool) (p : Byte), getFlag f (setFlag f on p) = on ∧ OnlyFlags [f] p (setFlag f on p)) ∧
  (∀ v p : Byte, FlagsOf v (setNZ v p) ∧ OnlyFlags [.n, .z] p (setNZ v p))

/-- R70, R71, with STACK_BASE = 0x0100 as D4 decides it: push writes at STACK_BASE | SP and then decrements SP; pop
increments SP and then reads there. -/
def Obligations.PushAndPopAsStated : Prop :=
  ∀ (s : State) (v : Byte),
    s.push v = { s.write (0x0100 ||| zext16 s.sp) v with sp := s.sp - 1 } ∧
    s.popVal = s.read (0x0100 ||| zext16 (s.sp + 1)) ∧
    s.afterPop = { s with
      sp := s.sp + 1, bus := s.bus ++ [⟨.read, 0x0100 ||| zext16 (s.sp + 1), s.popVal⟩] }

/-- R70, R71, R72: a pop after a push gives the byte pushed and restores SP, at every SP, the wrap of the page
included; the push changes no byte but the one it pushes. -/
def Obligations.PopReturnsWhatPushWrote : Prop :=
  ∀ (s : State) (v : Byte),
    (s.push v).popVal = v ∧ (s.push v).afterPop.sp = s.sp ∧
    ∀ addr : Word, routeOf s.cfg.memMap addr ≠ routeOf s.cfg.memMap (stackAddr s.sp) →
      (s.push v).peek addr = s.peek addr

/-- R230, R231: PHA pushes A and PHP pushes P with bits 4 and 5 set; SP goes down by one, and no other register, no
flag and no other byte changes. -/
def Obligations.PushesWriteStack : Prop :=
  ∀ (l h : Byte) (s : State),
    (ReadsAs 0x48 l h .pha ∧ ∃ mem, Runs .pha s { s with sp := s.sp - 1, mem := mem } [⟨.write, stackAddr s.sp, s.a⟩] ∧
      Stored s mem (stackAddr s.sp) s.a) ∧
    (ReadsAs 0x08 l h .php ∧ ∃ mem, Runs .php s { s with sp := s.sp - 1, mem := mem }
        [⟨.write, stackAddr s.sp, s.p ||| 0x30⟩] ∧
      Stored s mem (stackAddr s.sp) (s.p ||| 0x30))

/-- R232: PLA pops into A, sets N and Z, raises SP by one, and changes nothing else. -/
def Obligations.PlaPullsAccumulator : Prop :=
  ∀ (l h : Byte) (s : State),
    Yields ⟨0x68, .pla, .implied⟩ l h s
      { s with a := s.read (stackAddr (s.sp + 1)), sp := s.sp + 1 } (s.read (stackAddr (s.sp + 1)))
      [⟨.read, stackAddr (s.sp + 1), s.read (stackAddr (s.sp + 1))⟩]

/-- R233 with PLP_POLICY as D13 decides it: PLP pops P, with B forced high under literal, and with B low and bit 5 high
under as_rti; SP goes up by one and nothing else changes. -/
def Obligations.PlpPullsStatus : Prop :=
  ∀ (l h : Byte) (s : State), ReadsAs 0x28 l h .plp ∧
    ∃ p, Runs .plp s { s with p := p, sp := s.sp + 1 }
        [⟨.read, stackAddr (s.sp + 1), s.read (stackAddr (s.sp + 1))⟩] ∧
      (s.cfg.plpPolicy = .literal → p = s.read (stackAddr (s.sp + 1)) ||| 0x10) ∧
      (s.cfg.plpPolicy = .asRti → p = (s.read (stackAddr (s.sp + 1)) &&& ~~~0x10) ||| 0x20)

/-- R234 to R240: each flag instruction sets or clears its one flag and changes nothing else. -/
def Obligations.FlagInstructionsSetOneFlag : Prop :=
  ∀ (l h : Byte) (s : State),
    ∀ g ∈ [((0x18 : Byte), Instr.clc, Flag.c, false), (0x38, .sec, .c, true), (0x58, .cli, .i, false),
        (0x78, .sei, .i, true), (0xD8, .cld, .d, false), (0xF8, .sed, .d, true), (0xB8, .clv, .v, false)],
      ReadsAs g.1 l h g.2.1 ∧
      ∃ p, Runs g.2.1 s { s with p := p } [] ∧ getFlag g.2.2.1 p = g.2.2.2 ∧ OnlyFlags [g.2.2.1] s.p p

/-- R241 and R301 (D10, D21): NOP, and under UNDOC_POLICY = implement each undocumented NOP, changes nothing but PC;
after the fetch of its bytes, which has read an immediate's operand byte (log entry 4), only a form with a memory
operand makes an access, the resolver's and one read of ea. -/
def Obligations.NopsChangeNothing : Prop :=
  ∀ (l h : Byte) (s : State),
    (ReadsAs 0xEA l h .nop ∧ Runs .nop s s []) ∧
    (s.cfg.undocPolicy = .implement →
      (∀ g ∈ [((0x1A : Byte), Instr.nop1A), (0x3A, .nop3A), (0x5A, .nop5A), (0x7A, .nop7A), (0xDA, .nopDA),
          (0xFA, .nopFA)], ReadsAs g.1 l h g.2 ∧ Runs g.2 s s []) ∧
      (∀ f ∈ nopForms l h, ReadsAs f.op l h f.instr ∧ Runs f.instr s s (reads s f.arg)))

/-! ### Control transfer -/

/-- R250, R251: JMP goes to its operand; JMP (ind) goes to the word that the bus answers at its pointer, low byte first,
the high byte fetched from the same page; where memory holds the two bytes, it is their word; nothing else changes. A
target equal to pc1 is followed by the advance under ADVANCE_POLICY = compare alone (R138, R140, D9, log entry 19). -/
def Obligations.JumpsGoToTheirTargets : Prop :=
  ∀ (l h : Byte) (s : State),
    (ReadsAs 0x4C l h (.jmpAbs (word16 h l)) ∧ RunsTo (.jmpAbs (word16 h l)) s s (word16 h l) []) ∧
    (ReadsAs 0x6C l h (.jmpInd (word16 h l)) ∧
      let lo := s.read (word16 h l)
      let hi := (s.afterRead (word16 h l)).read (word16 h (l + 1))
      RunsTo (.jmpInd (word16 h l)) s s (word16 hi lo)
        [⟨.read, word16 h l, lo⟩, ⟨.read, word16 h (l + 1), hi⟩] ∧
      (∀ b, s.peek (word16 h l) = some b → lo = b) ∧ ∀ b, s.peek (word16 h (l + 1)) = some b → hi = b)

/-- R252 (D19): JSR pushes the address of its own last byte, high byte first, so that it lies little-endian on the
stack, and goes to its operand, which the fetch has read before the pushes (log entry 4); a target equal to pc1 is
followed by the advance under ADVANCE_POLICY = compare alone (R138, R140, D9, log entry 19). SP goes down by two and
no other register, flag or byte changes. -/
def Obligations.JsrPushesReturnAddress : Prop :=
  ∀ (l h : Byte) (s : State), ReadsAs 0x20 l h (.jsrAbs (word16 h l)) ∧
    ∃ mem, RunsTo (.jsrAbs (word16 h l)) s { s with sp := s.sp - 2, mem := mem } (word16 h l)
        [⟨.write, stackAddr s.sp, hi8 (s.pc + 1)⟩, ⟨.write, stackAddr (s.sp - 1), lo8 (s.pc + 1)⟩] ∧
      { s with mem := mem }.peek (stackAddr s.sp) = some (hi8 (s.pc + 1)) ∧
      { s with mem := mem }.peek (stackAddr (s.sp - 1)) = some (lo8 (s.pc + 1)) ∧
      ∀ addr, routeOf s.cfg.memMap addr ≠ routeOf s.cfg.memMap (stackAddr s.sp) →
        routeOf s.cfg.memMap addr ≠ routeOf s.cfg.memMap (stackAddr (s.sp - 1)) →
        { s with mem := mem }.peek addr = s.peek addr

/-- R253: RTS pops the low byte, then the high byte, and goes to that address plus 1; SP goes up by two and nothing else
changes. -/
def Obligations.RtsPopsReturnAddress : Prop :=
  ∀ (l h : Byte) (s : State), ReadsAs 0x60 l h .rts ∧
    let lo := s.read (stackAddr (s.sp + 1))
    let hi := s.read (stackAddr (s.sp + 2))
    RunsTo .rts s { s with sp := s.sp + 2 } (word16 hi lo + 1)
      [⟨.read, stackAddr (s.sp + 1), lo⟩, ⟨.read, stackAddr (s.sp + 2), hi⟩]

/-- R254, R325 (D14): RTI pops P with B low and bit 5 high, then PC low, then PC high, with no + 1; SP goes up by three
and nothing else changes. -/
def Obligations.RtiPopsStatusAndAddress : Prop :=
  ∀ (l h : Byte) (s : State), ReadsAs 0x40 l h .rti ∧
    let v := s.read (stackAddr (s.sp + 1))
    let lo := s.read (stackAddr (s.sp + 2))
    let hi := s.read (stackAddr (s.sp + 3))
    RunsTo .rti s { s with sp := s.sp + 3, p := (v &&& ~~~0x10) ||| 0x20 } (word16 hi lo)
      [⟨.read, stackAddr (s.sp + 1), v⟩, ⟨.read, stackAddr (s.sp + 2), lo⟩, ⟨.read, stackAddr (s.sp + 3), hi⟩]

/-- R255 to R263 (D38): each branch, when its flag has its value, goes to the address after itself plus the signed
displacement, and otherwise to the address after itself; nothing else changes. A target equal to pc1 (displacement
0xFF) is followed by the advance under ADVANCE_POLICY = compare alone (R138, R140, D9, log entry 19); the displacement
byte has been read by the fetch, taken or not (log entry 4). -/
def Obligations.BranchesTestOneFlag : Prop :=
  ∀ (l h : Byte) (s : State),
    ∀ g ∈ [((0x10 : Byte), Instr.bplRel l, Flag.n, false), (0x30, .bmiRel l, .n, true), (0x50, .bvcRel l, .v, false),
        (0x70, .bvsRel l, .v, true), (0x90, .bccRel l, .c, false), (0xB0, .bcsRel l, .c, true),
        (0xD0, .bneRel l, .z, false), (0xF0, .beqRel l, .z, true)],
      ReadsAs g.1 l h g.2.1 ∧
      (getFlag g.2.2.1 s.p = g.2.2.2 → RunsTo g.2.1 s s (s.pc + 1 + BitVec.ofInt 16 l.toInt) []) ∧
      (getFlag g.2.2.1 s.p ≠ g.2.2.2 → Runs g.2.1 s s [])

/-! ### Undocumented instructions, under UNDOC_POLICY = implement -/

/-- R281, R282, R283: SLO, RLA and SRE replace the byte at ea by its shift, combine the result into A, set C from the
shift and N and Z from the new A, and change nothing else. -/
def Obligations.ShiftComposites : Prop :=
  ∀ (l h : Byte) (s : State), s.cfg.undocPolicy = .implement →
    ∀ g ∈ [(asl, sloForms l h, fun x y : Byte => x ||| y), (rol, rlaForms l h, fun x y => x &&& y),
        (lsr, sreForms l h, fun x y => x ^^^ y)], ∀ f ∈ g.2.1,
      let r := g.1.result (s.operandVal f.arg) (getFlag .c s.p)
      ReadsAs f.op l h f.instr ∧
      ∃ mem p, Runs f.instr s { s with mem := mem, p := p, a := g.2.2 s.a r } (modifies s f.arg r) ∧
        Stored s mem (s.ea f.arg) r ∧
        getFlag .c p = g.1.out (s.operandVal f.arg) ∧ FlagsOf (g.2.2 s.a r) p ∧ OnlyFlags [.c, .n, .z] s.p p

/-- R284, R287: RRA rotates the byte at ea and adds it with the bit rotated out as carry; DCP decrements it and compares
A with it; nothing else changes. -/
def Obligations.ArithmeticComposites : Prop :=
  ∀ (l h : Byte) (s : State), s.cfg.undocPolicy = .implement →
    (∀ f ∈ rraForms l h,
      let v := s.operandVal f.arg
      let r := ror.result v (getFlag .c s.p)
      ReadsAs f.op l h f.instr ∧
      ∃ mem a p, Runs f.instr s { s with mem := mem, p := p, a := a } (modifies s f.arg r) ∧
        Stored s mem (s.ea f.arg) r ∧ Added s.a r (setFlag .c (v.getLsbD 0) s.p) a p) ∧
    (∀ f ∈ dcpForms l h,
      let r := s.operandVal f.arg - 1
      ReadsAs f.op l h f.instr ∧
      ∃ mem p, Runs f.instr s { s with mem := mem, p := p } (modifies s f.arg r) ∧
        Stored s mem (s.ea f.arg) r ∧ Compared s.a r s.p p)

/-- R288 with the operand transform of D12 (SBC_FORM): ISB increments the byte at ea and subtracts it from A; nothing
else changes. -/
def Obligations.IsbIncrementsAndSubtracts : Prop :=
  ∀ (l h : Byte) (s : State), s.cfg.undocPolicy = .implement → ∀ f ∈ isbForms l h,
    let r := s.operandVal f.arg + 1
    ReadsAs f.op l h f.instr ∧
    ∃ mem a p, Runs f.instr s { s with mem := mem, p := p, a := a } (modifies s f.arg r) ∧
      Stored s mem (s.ea f.arg) r ∧ Added s.a (subtrahend s r) s.p a p

/-- R285, R286: SAX writes A & X to ea and changes no flag or register; LAX loads M into A and X and sets N and Z. -/
def Obligations.CombinedLoadAndStore : Prop :=
  ∀ (l h : Byte) (s : State), s.cfg.undocPolicy = .implement →
    (∀ f ∈ saxForms l h, Stores f l h s (s.a &&& s.x)) ∧
    (∀ f ∈ laxForms l h, Yields f l h s
      { s with a := s.operandVal f.arg, x := s.operandVal f.arg } (s.operandVal f.arg) (reads s f.arg))

/-- R289 to R292: ANC, ALR, ARR and SBX, each with its own C, and V for ARR; nothing else changes. The immediate byte is
read by the fetch (log entry 4), so that none makes an access after it. -/
def Obligations.ImmediateComposites : Prop :=
  ∀ (d h : Byte) (s : State), s.cfg.undocPolicy = .implement →
    (∀ f ∈ ancForms d h, ReadsAs f.op d h f.instr ∧
      ∃ p, Runs f.instr s { s with a := s.a &&& d, p := p } [] ∧ FlagsOf (s.a &&& d) p ∧
        getFlag .c p = (s.a &&& d).getLsbD 7 ∧ OnlyFlags [.n, .z, .c] s.p p) ∧
    (ReadsAs 0x4B d h (.alrImm d) ∧
      ∃ p, Runs (.alrImm d) s { s with a := (s.a &&& d) >>> 1, p := p } [] ∧ ShiftFlags lsr (s.a &&& d) s.p p) ∧
    (ReadsAs 0x6B d h (.arrImm d) ∧
      let r := ror.result (s.a &&& d) (getFlag .c s.p)
      ∃ p, Runs (.arrImm d) s { s with a := r, p := p } [] ∧ FlagsOf r p ∧ getFlag .c p = r.getLsbD 6 ∧
        getFlag .v p = (r.getLsbD 6 != r.getLsbD 5) ∧ OnlyFlags [.n, .z, .c, .v] s.p p) ∧
    (ReadsAs 0xCB d h (.sbxImm d) ∧
      ∃ p, Runs (.sbxImm d) s { s with x := (s.a &&& s.x) - d, p := p } [] ∧ FlagsOf ((s.a &&& s.x) - d) p ∧
        getFlag .c p = decide (d.toNat ≤ (s.a &&& s.x).toNat) ∧ OnlyFlags [.n, .z, .c] s.p p)

/-- R294, R295 with the parameters of D20: XAA and LXA load the AND they state, set N and Z from it, and change
nothing else. The immediate byte is read by the fetch (log entry 4), so that neither makes an access after it. -/
def Obligations.UnstableLoads : Prop :=
  ∀ (l h : Byte) (s : State), s.cfg.undocPolicy = .implement →
    (let v := (s.a ||| s.cfg.xaaMagic) &&& s.x &&& l
     Yields ⟨0x8B, .xaaImm l, .imm l⟩ l h s { s with a := v } v []) ∧
    (let v := (s.a ||| s.cfg.lxaMagic) &&& l
     Yields ⟨0xAB, .lxaImm l, .imm l⟩ l h s { s with a := v, x := v } v [])

/-- R296: LAS loads M & SP into A, X and SP, sets N and Z from it, and changes nothing else. -/
def Obligations.LasLoadsThreeRegisters : Prop :=
  ∀ (l h : Byte) (s : State), s.cfg.undocPolicy = .implement →
    let v := s.operandVal (.absy (word16 h l)) &&& s.sp
    Yields ⟨0xBB, .lasAbsy (word16 h l), .absy (word16 h l)⟩ l h s { s with a := v, x := v, sp := v } v
      (reads s (.absy (word16 h l)))

/-- R297 to R300 (D20): TAS, SHA, SHX and SHY store their value ANDed with H + 1 at ea, TAS moving A & X to SP first;
no flag, no other register and no other byte changes. -/
def Obligations.HighByteStores : Prop :=
  ∀ (l h : Byte) (s : State), s.cfg.undocPolicy = .implement →
    (ReadsAs 0x9B l h (.tasAbsy (word16 h l)) ∧
      let v := s.a &&& s.x &&& (h + 1)
      ∃ mem, Runs (.tasAbsy (word16 h l)) s { s with mem := mem, sp := s.a &&& s.x }
          (writes s (.absy (word16 h l)) v) ∧
        Stored s mem (s.ea (.absy (word16 h l))) v) ∧
    (∀ f ∈ shaForms l h, Stores f l h s (s.a &&& s.x &&& hPlusOne s f.arg)) ∧
    Stores ⟨0x9E, .shxAbsy (word16 h l), .absy (word16 h l)⟩ l h s (s.x &&& (h + 1)) ∧
    Stores ⟨0x9C, .shyAbsx (word16 h l), .absx (word16 h l)⟩ l h s (s.y &&& (h + 1))

/-! ### Rules of the whole machine -/

/-- R38: an instruction whose mnemonic R38 does not list for a flag leaves that flag as it was. -/
def Obligations.OnlyListedInstructionsWriteFlags : Prop :=
  ∀ (i : Instr) (s t : State) (f : Flag), exec i s = .next t → i.entry.mnemonic ∉ flagWriters f →
    getFlag f t.p = getFlag f s.p

/-- R30: an instruction whose mnemonic R30 does not list as a writer of A, X, Y or SP leaves that register as it was. -/
def Obligations.OnlyListedInstructionsWriteRegisters : Prop :=
  ∀ (i : Instr) (s t : State), exec i s = .next t →
    (i.entry.mnemonic ∉ aWriters → t.a = s.a) ∧ (i.entry.mnemonic ∉ xWriters → t.x = s.x) ∧
    (i.entry.mnemonic ∉ yWriters → t.y = s.y) ∧ (i.entry.mnemonic ∉ spWriters → t.sp = s.sp)

/-- Derived from the rules of 41 to 46: an instruction that is no store, push or read-modify-write leaves every byte of
memory as it was. -/
def Obligations.OnlyStoringInstructionsWriteMemory : Prop :=
  ∀ (i : Instr) (s t : State), exec i s = .next t → i.entry.mnemonic ∉ memWriters →
    t.mem = s.mem ∧ ∀ addr, t.peek addr = s.peek addr

/-- R39: no step reads P.B or P.b5: two states that differ in these bits alone step alike and then differ in these bits
at most. -/
def Obligations.BreakAndBit5AreNeverRead : Prop :=
  ∀ s t : State, AgreeUnder 0xCF s t → SameOutcome 0xCF (step s) (step t)

/-- R38, R41, R42: no instruction but PHP reads the Decimal or the Interrupt-disable flag, the adder and its composites
included. -/
def Obligations.OnlyPhpReadsDecimalAndInterrupt : Prop :=
  ∀ (i : Instr) (s t : State), i ≠ .php → AgreeUnder 0xF3 s t → SameOutcome 0xF3 (exec i s) (exec i t)

/-- R253's example and V7: RTS after JSR, wherever the subroutine ends, restores the stack pointer and goes to the
address after the JSR (call site + 3, pc1 + 2), under both advance policies. -/
def Obligations.CallThenReturnRestores : Prop :=
  ∀ (w q : Word) (s : State), ∃ t u, exec (.jsrAbs w) s = .next t ∧ exec .rts { t with pc := q } = .next u ∧
    u.pc = s.pc + 2 ∧ u.sp = s.sp ∧ u.a = s.a ∧ u.x = s.x ∧ u.y = s.y ∧ u.p = s.p

/-- R143, conflict C4: JMP to its own address is a hang: the step comes back to the same PC, and from then on each step
gives the very state it began in. -/
def Obligations.JumpToSelfIsAFixedPoint : Prop :=
  ∀ s : State, s.run = .ready → s.peek s.pc = some 0x4C → s.peek (s.pc + 1) = some (lo8 s.pc) →
    s.peek (s.pc + 2) = some (hi8 s.pc) → ∃ t, step s = .next t ∧ t.pc = s.pc ∧ step t = .next t

/-- R66, R67, R68 (D15, D16, D36): a bus read gives the byte that its address holds, a read of the peripheral window
the next free draw, which it uses up, and a read changes nothing else but the bus record. Under flat an address holds
the byte last written to it and a write changes no other; under nes_store the RAM window mirrors every 2048 bytes,
addresses from 0x4000 on hold 0 and discard writes, and a write to the peripheral window changes no memory. -/
def Obligations.BusReadsLastWrittenByte : Prop :=
  ∀ (s : State) (x y : Word) (v : Byte),
    (∀ b, s.peek y = some b → s.read y = b ∧ s.afterRead y = { s with bus := s.bus ++ [⟨.read, y, b⟩] }) ∧
    (s.write x v = { s with mem := (s.write x v).mem, bus := s.bus ++ [⟨.write, x, v⟩] }) ∧
    (s.cfg.memMap = .flat → (s.write x v).peek y = if y = x then some v else s.peek y) ∧
    (s.cfg.memMap = .nesStore →
      (x < 0x2000 → y < 0x2000 →
        (s.write x v).peek y = if y &&& 0x07FF = x &&& 0x07FF then some v else s.peek y) ∧
      (0x2000 ≤ y → y < 0x4000 → s.read y = Config.periphRead s.draws ∧
        s.afterRead y = { s with
          bus := s.bus ++ [⟨.read, y, Config.periphRead s.draws⟩], draws := s.draws + 1 }) ∧
      (0x4000 ≤ y → s.peek y = some 0x00) ∧ (0x2000 ≤ x → (s.write x v).mem = s.mem))

/-- R340, R49 (D3, D5, D6): reset gives the stated registers, PC from the reset vector, READY and no fault record, in any
run state, with two bus reads and memory unchanged; State.reset is the reset of the power-on state. -/
def Obligations.ResetGivesStatedValues : Prop :=
  (∀ s : State, s.hostReset = { s with
    a := 0x00, x := 0x00, y := 0x00, sp := 0xFD, p := 0x24, pc := word16 (s.read 0xFFFD) (s.read 0xFFFC)
    run := .ready, faultRec := none, cost := none
    bus := [⟨.read, 0xFFFC, s.read 0xFFFC⟩, ⟨.read, 0xFFFD, s.read 0xFFFD⟩] }) ∧
  State.reset = (State.powerOn {}).hostReset

/-- R342, R343, R344 (D24, D25): a program that fits is loaded without a change of register or run state, and every byte
that shares no place with a program byte or a vector byte stays; reset leaves memory as the load left it. Under flat
the reset starts at LOAD_ADDR with every program byte in memory but those the vector write overwrote, at 0xFFFC and
0xFFFD; under nes_store it starts at 0x0000, with the bytes that fall in the RAM window in memory if the program is no
longer than the buffer. A program that does not fit is refused. -/
def Obligations.LoadThenResetStartsProgram : Prop :=
  ∀ (s : State) (bytes : List Byte),
    let addrOf (k : Nat) : Word := s.cfg.loadAddr + BitVec.ofNat 16 k
    let place := routeOf s.cfg.memMap
    (s.cfg.loadAddr.toNat + bytes.length ≤ 65536 → ∃ t, s.hostLoad bytes = .next t ∧
      t = { s with mem := t.mem, bus := t.bus } ∧ t.hostReset.mem = t.mem ∧
      (∀ addr, (∀ k, k < bytes.length → place addr ≠ place (addrOf k)) → place addr ≠ place 0xFFFC →
        place addr ≠ place 0xFFFD → t.peek addr = s.peek addr) ∧
      (s.cfg.memMap = .flat → t.hostReset.pc = s.cfg.loadAddr ∧
        ∀ k, k < bytes.length → addrOf k ≠ 0xFFFC → addrOf k ≠ 0xFFFD →
          t.hostReset.peek (addrOf k) = some (bytes.getD k 0)) ∧
      (s.cfg.memMap = .nesStore → t.hostReset.pc = 0x0000 ∧
        ∀ k, k < bytes.length → bytes.length ≤ 2048 → addrOf k < 0x2000 →
          t.hostReset.peek (addrOf k) = some (bytes.getD k 0))) ∧
    (65536 < s.cfg.loadAddr.toNat + bytes.length → s.hostLoad bytes = .refused (.loadDoesNotFit bytes.length))

/-- The machine's invariant (memory in canonical form and within its map, the fault record exactly in FAULTED and only
UnmappedOpcode of an unmapped value under STRICT_DECODE, no cost once stopped) is kept by every step, which also
leaves the configuration as it is (R46, R47, R120, R320). -/
def Obligations.StepKeepsInvariant : Prop :=
  ∀ s t : State, s.Inv → step s = .next t → t.Inv ∧ t.cfg = s.cfg

/-- The state after reset meets the invariant, and so does the power-on state under every configuration. -/
def Obligations.ResetMeetsInvariant : Prop :=
  State.reset.Inv ∧ ∀ cfg : Config, (State.powerOn cfg).Inv
end

