-- ==== Sys2Proof/Laws/Memory.lean ====
section
/-! SUPPORT. The laws of the backing store: read after write, the canonical form kept, and the two maps. -/

namespace Sys2Proof.Machine

theorem Memory.read_erase_other (init : MemInit) (m : Memory) {j k : Nat} (h : j ≠ k) :
    Memory.read init (Memory.eraseCell m k) j = Memory.read init m j := by
  induction m with
  | nil => rfl
  | cons c m ih =>
    obtain ⟨i, u⟩ := c
    by_cases hik : i = k
    · subst hik
      have : Memory.eraseCell ((i, u) :: m) i = Memory.eraseCell m i := by simp [Memory.eraseCell]
      rw [this, ih, Memory.read, if_neg (fun e => h e.symm)]
    · have : Memory.eraseCell ((i, u) :: m) k = ((i, u) :: Memory.eraseCell m k : Memory) := by simp [Memory.eraseCell, hik]
      rw [this, Memory.read, Memory.read, ih]

theorem Memory.read_erase_same (init : MemInit) (m : Memory) (k : Nat) :
    Memory.read init (Memory.eraseCell m k) k = Memory.unlisted init k := by
  induction m with
  | nil => rfl
  | cons c m ih =>
    obtain ⟨i, u⟩ := c
    by_cases hik : i = k
    · subst hik
      have : Memory.eraseCell ((i, u) :: m) i = Memory.eraseCell m i := by simp [Memory.eraseCell]
      rw [this, ih]
    · have : Memory.eraseCell ((i, u) :: m) k = ((i, u) :: Memory.eraseCell m k : Memory) := by simp [Memory.eraseCell, hik]
      rw [this, Memory.read, if_neg hik, ih]

theorem Memory.read_insert_other (init : MemInit) (m : Memory) {j k : Nat} (v : Byte) (h : j ≠ k) :
    Memory.read init (Memory.insertCell m k v) j = Memory.read init m j := by
  induction m with
  | nil => simp [Memory.insertCell, Memory.read, Ne.symm h]
  | cons c m ih =>
    obtain ⟨i, u⟩ := c
    by_cases hki : k < i
    · simp [Memory.insertCell, hki, Memory.read, Ne.symm h]
    · simp [Memory.insertCell, hki, Memory.read, ih]

theorem Memory.read_insert_erase_same (init : MemInit) (m : Memory) (k : Nat) (v : Byte) :
    Memory.read init (Memory.insertCell (Memory.eraseCell m k) k v) k = v := by
  induction m with
  | nil => simp [Memory.eraseCell, Memory.insertCell, Memory.read]
  | cons c m ih =>
    obtain ⟨i, u⟩ := c
    by_cases hik : i = k
    · subst hik
      have : Memory.eraseCell ((i, u) :: m) i = Memory.eraseCell m i := by simp [Memory.eraseCell]
      rw [this, ih]
    · have : Memory.eraseCell ((i, u) :: m) k = ((i, u) :: Memory.eraseCell m k : Memory) := by simp [Memory.eraseCell, hik]
      rw [this]
      by_cases hki : k < i
      · simp [Memory.insertCell, hki, Memory.read]
      · simp [Memory.insertCell, hki, Memory.read, hik, ih]

/-- A read after a write of the same cell gives the byte written (R66). -/
@[simp] theorem Memory.read_write_same (init : MemInit) (m : Memory) (k : Nat) (v : Byte) :
    Memory.read init (Memory.write init m k v) k = v := by
  unfold Memory.write
  split
  · rename_i h; rw [Memory.read_erase_same, h]
  · exact Memory.read_insert_erase_same init m k v

/-- A write leaves every other cell alone. -/
theorem Memory.read_write_other (init : MemInit) (m : Memory) {j k : Nat} (v : Byte) (h : j ≠ k) :
    Memory.read init (Memory.write init m k v) j = Memory.read init m j := by
  unfold Memory.write
  split
  · exact Memory.read_erase_other init m h
  · rw [Memory.read_insert_other init _ v h, Memory.read_erase_other init m h]

theorem Memory.wfFrom_mono (init : MemInit) (size : Nat) {lo lo' : Nat} {m : Memory} (hle : lo' ≤ lo)
    (h : Memory.wfFrom init size lo m = true) : Memory.wfFrom init size lo' m = true := by
  cases m with
  | nil => rfl
  | cons c m =>
    obtain ⟨i, u⟩ := c
    simp only [Memory.wfFrom, Bool.and_eq_true, decide_eq_true_eq] at h ⊢
    exact ⟨⟨⟨by omega, h.1.1.2⟩, h.1.2⟩, h.2⟩

theorem Memory.wfFrom_erase (init : MemInit) (size lo k : Nat) (m : Memory)
    (h : Memory.wfFrom init size lo m = true) : Memory.wfFrom init size lo (Memory.eraseCell m k) = true := by
  induction m generalizing lo with
  | nil => rfl
  | cons c m ih =>
    obtain ⟨i, u⟩ := c
    simp only [Memory.wfFrom, Bool.and_eq_true, decide_eq_true_eq] at h
    have ih' := ih (i + 1) h.2
    by_cases hik : i = k
    · have : Memory.eraseCell ((i, u) :: m) k = Memory.eraseCell m k := by simp [Memory.eraseCell, hik]
      rw [this]
      exact Memory.wfFrom_mono init size (by omega) ih'
    · have : Memory.eraseCell ((i, u) :: m) k = ((i, u) :: Memory.eraseCell m k : Memory) := by simp [Memory.eraseCell, hik]
      rw [this]
      simp only [Memory.wfFrom, Bool.and_eq_true, decide_eq_true_eq]
      exact ⟨h.1, ih'⟩

theorem Memory.wfFrom_insert_erase (init : MemInit) (size lo k : Nat) (v : Byte) (m : Memory)
    (hlo : lo ≤ k) (hk : k < size) (hv : v ≠ Memory.unlisted init k)
    (h : Memory.wfFrom init size lo m = true) :
    Memory.wfFrom init size lo (Memory.insertCell (Memory.eraseCell m k) k v) = true := by
  induction m generalizing lo with
  | nil => simp [Memory.eraseCell, Memory.insertCell, Memory.wfFrom, hlo, hk, hv]
  | cons c m ih =>
    obtain ⟨i, u⟩ := c
    simp only [Memory.wfFrom, Bool.and_eq_true, decide_eq_true_eq] at h
    by_cases hik : i = k
    · have : Memory.eraseCell ((i, u) :: m) k = Memory.eraseCell m k := by simp [Memory.eraseCell, hik]
      rw [this]
      exact ih lo hlo (Memory.wfFrom_mono init size (by omega) h.2)
    · have : Memory.eraseCell ((i, u) :: m) k = ((i, u) :: Memory.eraseCell m k : Memory) := by simp [Memory.eraseCell, hik]
      rw [this]
      by_cases hki : k < i
      · have he := Memory.wfFrom_erase init size (i + 1) k m h.2
        simp only [Memory.insertCell, hki, if_true, Memory.wfFrom, Bool.and_eq_true, decide_eq_true_eq]
        exact ⟨⟨⟨hlo, hk⟩, by simpa using hv⟩, ⟨⟨by omega, h.1.1.2⟩, h.1.2⟩, he⟩
      · have ih' := ih (i + 1) (by omega) h.2
        simp only [Memory.insertCell, hki, if_false, Memory.wfFrom, Bool.and_eq_true, decide_eq_true_eq]
        exact ⟨h.1, ih'⟩

/-- A write of a cell within the store keeps the canonical form. -/
theorem Memory.wf_write (init : MemInit) (size : Nat) (m : Memory) (k : Nat) (v : Byte) (hk : k < size)
    (h : m.wf init size = true) : (Memory.write init m k v).wf init size = true := by
  unfold Memory.write Memory.wf
  split
  · exact Memory.wfFrom_erase init size 0 k m h
  · rename_i hv
    exact Memory.wfFrom_insert_erase init size 0 k v m (Nat.zero_le k) hk hv h

theorem Memory.read_below (init : MemInit) (size lo : Nat) (m : Memory)
    (h : Memory.wfFrom init size lo m = true) {k : Nat} (hk : k < lo) :
    Memory.read init m k = Memory.unlisted init k := by
  induction m generalizing lo with
  | nil => rfl
  | cons c m ih =>
    obtain ⟨i, u⟩ := c
    simp only [Memory.wfFrom, Bool.and_eq_true, decide_eq_true_eq] at h
    rw [Memory.read, if_neg (by omega), ih (i + 1) h.2 (by omega)]

theorem Memory.wfFrom_ext (init : MemInit) (size : Nat) {lo lo' : Nat} {m m' : Memory}
    (h : Memory.wfFrom init size lo m = true) (h' : Memory.wfFrom init size lo' m' = true)
    (hr : ∀ k, Memory.read init m k = Memory.read init m' k) : m = m' := by
  induction m generalizing lo lo' m' with
  | nil =>
    cases m' with
    | nil => rfl
    | cons c' m' =>
      obtain ⟨j, w⟩ := c'
      simp only [Memory.wfFrom, Bool.and_eq_true, bne_iff_ne, ne_eq] at h'
      have := hr j
      simp only [Memory.read, if_true] at this
      exact absurd this.symm h'.1.2
  | cons c m ih =>
    obtain ⟨i, u⟩ := c
    simp only [Memory.wfFrom, Bool.and_eq_true, decide_eq_true_eq, bne_iff_ne, ne_eq] at h
    cases m' with
    | nil =>
      have := hr i
      simp only [Memory.read, if_true] at this
      exact absurd this h.1.2
    | cons c' m' =>
      obtain ⟨j, w⟩ := c'
      simp only [Memory.wfFrom, Bool.and_eq_true, decide_eq_true_eq, bne_iff_ne, ne_eq] at h'
      have hij : i = j := by
        rcases Nat.lt_trichotomy i j with hlt | heq | hgt
        · have := hr i
          rw [Memory.read, if_pos rfl, Memory.read, if_neg (by omega),
            Memory.read_below init size (j + 1) m' h'.2 (by omega)] at this
          exact absurd this h.1.2
        · exact heq
        · have := hr j
          rw [Memory.read, if_neg (by omega), Memory.read, if_pos rfl,
            Memory.read_below init size (i + 1) m h.2 (by omega)] at this
          exact absurd this.symm h'.1.2
      subst hij
      have huw : u = w := by
        have := hr i
        rw [Memory.read, Memory.read, if_pos rfl, if_pos rfl] at this
        exact this
      subst huw
      have hmm : m = m' := by
        refine ih h.2 h'.2 fun k => ?_
        by_cases hk : i = k
        · subst hk
          rw [Memory.read_below init size (i + 1) m h.2 (by omega),
            Memory.read_below init size (i + 1) m' h'.2 (by omega)]
        · have := hr k
          rw [Memory.read, Memory.read, if_neg hk, if_neg hk] at this
          exact this
      rw [hmm]

/-- Two stores in canonical form that read alike are equal data. -/
theorem Memory.wf_ext (init : MemInit) (size : Nat) {m m' : Memory} (h : m.wf init size = true)
    (h' : m'.wf init size = true) (hr : ∀ k, Memory.read init m k = Memory.read init m' k) : m = m' :=
  Memory.wfFrom_ext init size h h' hr

/-- Every cell that an access is routed to lies in the store. -/
theorem routeOf_lt_storeSize (map : MemMap) (addr : Word) (k : Nat) (h : routeOf map addr = .ram k) :
    k < storeSize map := by
  cases map with
  | flat =>
    simp only [routeOf, Route.ram.injEq] at h
    simp only [storeSize]
    have := addr.isLt
    omega
  | nesStore =>
    simp only [routeOf] at h
    split at h
    · simp only [Route.ram.injEq] at h
      have : (addr &&& 0x07FF).toNat ≤ 0x07FF := by
        rw [BitVec.toNat_and]
        exact Nat.and_le_right
      simp only [storeSize]
      omega
    · split at h <;> simp at h

/-- Every page-0 address is backed under both maps (R67, R68). -/
theorem routeOf_zext16 (map : MemMap) (b : Byte) : routeOf map (zext16 b) = .ram b.toNat := by
  cases map with
  | flat =>
    simp only [routeOf, zext16, BitVec.toNat_setWidth, Route.ram.injEq]
    have := b.isLt
    omega
  | nesStore =>
    have key : ∀ b : Byte, routeOf .nesStore (zext16 b) = .ram b.toNat := by decide
    exact key b

end Sys2Proof.Machine
end

