-- ==== Sys2Proof/Laws/State.lean ====
section
/-! SUPPORT. What each field of State is after each named update of it, true by rfl, so that no proof unfolds a record
update. A field an update does not name is unchanged. -/

namespace Sys2Proof.Machine

@[simp] theorem State.setA_a (s : State) (v : Byte) : (s.setA v).a = v := rfl
@[simp] theorem State.setA_x (s : State) (v : Byte) : (s.setA v).x = s.x := rfl
@[simp] theorem State.setA_y (s : State) (v : Byte) : (s.setA v).y = s.y := rfl
@[simp] theorem State.setA_sp (s : State) (v : Byte) : (s.setA v).sp = s.sp := rfl
@[simp] theorem State.setA_pc (s : State) (v : Byte) : (s.setA v).pc = s.pc := rfl
@[simp] theorem State.setA_p (s : State) (v : Byte) : (s.setA v).p = s.p := rfl
@[simp] theorem State.setA_run (s : State) (v : Byte) : (s.setA v).run = s.run := rfl
@[simp] theorem State.setA_faultRec (s : State) (v : Byte) : (s.setA v).faultRec = s.faultRec := rfl
@[simp] theorem State.setA_cost (s : State) (v : Byte) : (s.setA v).cost = s.cost := rfl
@[simp] theorem State.setA_bus (s : State) (v : Byte) : (s.setA v).bus = s.bus := rfl
@[simp] theorem State.setA_mem (s : State) (v : Byte) : (s.setA v).mem = s.mem := rfl
@[simp] theorem State.setA_draws (s : State) (v : Byte) : (s.setA v).draws = s.draws := rfl
@[simp] theorem State.setA_cfg (s : State) (v : Byte) : (s.setA v).cfg = s.cfg := rfl

@[simp] theorem State.setX_a (s : State) (v : Byte) : (s.setX v).a = s.a := rfl
@[simp] theorem State.setX_x (s : State) (v : Byte) : (s.setX v).x = v := rfl
@[simp] theorem State.setX_y (s : State) (v : Byte) : (s.setX v).y = s.y := rfl
@[simp] theorem State.setX_sp (s : State) (v : Byte) : (s.setX v).sp = s.sp := rfl
@[simp] theorem State.setX_pc (s : State) (v : Byte) : (s.setX v).pc = s.pc := rfl
@[simp] theorem State.setX_p (s : State) (v : Byte) : (s.setX v).p = s.p := rfl
@[simp] theorem State.setX_run (s : State) (v : Byte) : (s.setX v).run = s.run := rfl
@[simp] theorem State.setX_faultRec (s : State) (v : Byte) : (s.setX v).faultRec = s.faultRec := rfl
@[simp] theorem State.setX_cost (s : State) (v : Byte) : (s.setX v).cost = s.cost := rfl
@[simp] theorem State.setX_bus (s : State) (v : Byte) : (s.setX v).bus = s.bus := rfl
@[simp] theorem State.setX_mem (s : State) (v : Byte) : (s.setX v).mem = s.mem := rfl
@[simp] theorem State.setX_draws (s : State) (v : Byte) : (s.setX v).draws = s.draws := rfl
@[simp] theorem State.setX_cfg (s : State) (v : Byte) : (s.setX v).cfg = s.cfg := rfl

@[simp] theorem State.setY_a (s : State) (v : Byte) : (s.setY v).a = s.a := rfl
@[simp] theorem State.setY_x (s : State) (v : Byte) : (s.setY v).x = s.x := rfl
@[simp] theorem State.setY_y (s : State) (v : Byte) : (s.setY v).y = v := rfl
@[simp] theorem State.setY_sp (s : State) (v : Byte) : (s.setY v).sp = s.sp := rfl
@[simp] theorem State.setY_pc (s : State) (v : Byte) : (s.setY v).pc = s.pc := rfl
@[simp] theorem State.setY_p (s : State) (v : Byte) : (s.setY v).p = s.p := rfl
@[simp] theorem State.setY_run (s : State) (v : Byte) : (s.setY v).run = s.run := rfl
@[simp] theorem State.setY_faultRec (s : State) (v : Byte) : (s.setY v).faultRec = s.faultRec := rfl
@[simp] theorem State.setY_cost (s : State) (v : Byte) : (s.setY v).cost = s.cost := rfl
@[simp] theorem State.setY_bus (s : State) (v : Byte) : (s.setY v).bus = s.bus := rfl
@[simp] theorem State.setY_mem (s : State) (v : Byte) : (s.setY v).mem = s.mem := rfl
@[simp] theorem State.setY_draws (s : State) (v : Byte) : (s.setY v).draws = s.draws := rfl
@[simp] theorem State.setY_cfg (s : State) (v : Byte) : (s.setY v).cfg = s.cfg := rfl

@[simp] theorem State.setSp_a (s : State) (v : Byte) : (s.setSp v).a = s.a := rfl
@[simp] theorem State.setSp_x (s : State) (v : Byte) : (s.setSp v).x = s.x := rfl
@[simp] theorem State.setSp_y (s : State) (v : Byte) : (s.setSp v).y = s.y := rfl
@[simp] theorem State.setSp_sp (s : State) (v : Byte) : (s.setSp v).sp = v := rfl
@[simp] theorem State.setSp_pc (s : State) (v : Byte) : (s.setSp v).pc = s.pc := rfl
@[simp] theorem State.setSp_p (s : State) (v : Byte) : (s.setSp v).p = s.p := rfl
@[simp] theorem State.setSp_run (s : State) (v : Byte) : (s.setSp v).run = s.run := rfl
@[simp] theorem State.setSp_faultRec (s : State) (v : Byte) : (s.setSp v).faultRec = s.faultRec := rfl
@[simp] theorem State.setSp_cost (s : State) (v : Byte) : (s.setSp v).cost = s.cost := rfl
@[simp] theorem State.setSp_bus (s : State) (v : Byte) : (s.setSp v).bus = s.bus := rfl
@[simp] theorem State.setSp_mem (s : State) (v : Byte) : (s.setSp v).mem = s.mem := rfl
@[simp] theorem State.setSp_draws (s : State) (v : Byte) : (s.setSp v).draws = s.draws := rfl
@[simp] theorem State.setSp_cfg (s : State) (v : Byte) : (s.setSp v).cfg = s.cfg := rfl

@[simp] theorem State.setP_a (s : State) (v : Byte) : (s.setP v).a = s.a := rfl
@[simp] theorem State.setP_x (s : State) (v : Byte) : (s.setP v).x = s.x := rfl
@[simp] theorem State.setP_y (s : State) (v : Byte) : (s.setP v).y = s.y := rfl
@[simp] theorem State.setP_sp (s : State) (v : Byte) : (s.setP v).sp = s.sp := rfl
@[simp] theorem State.setP_pc (s : State) (v : Byte) : (s.setP v).pc = s.pc := rfl
@[simp] theorem State.setP_p (s : State) (v : Byte) : (s.setP v).p = v := rfl
@[simp] theorem State.setP_run (s : State) (v : Byte) : (s.setP v).run = s.run := rfl
@[simp] theorem State.setP_faultRec (s : State) (v : Byte) : (s.setP v).faultRec = s.faultRec := rfl
@[simp] theorem State.setP_cost (s : State) (v : Byte) : (s.setP v).cost = s.cost := rfl
@[simp] theorem State.setP_bus (s : State) (v : Byte) : (s.setP v).bus = s.bus := rfl
@[simp] theorem State.setP_mem (s : State) (v : Byte) : (s.setP v).mem = s.mem := rfl
@[simp] theorem State.setP_draws (s : State) (v : Byte) : (s.setP v).draws = s.draws := rfl
@[simp] theorem State.setP_cfg (s : State) (v : Byte) : (s.setP v).cfg = s.cfg := rfl

@[simp] theorem State.setPc_a (s : State) (v : Word) : (s.setPc v).a = s.a := rfl
@[simp] theorem State.setPc_x (s : State) (v : Word) : (s.setPc v).x = s.x := rfl
@[simp] theorem State.setPc_y (s : State) (v : Word) : (s.setPc v).y = s.y := rfl
@[simp] theorem State.setPc_sp (s : State) (v : Word) : (s.setPc v).sp = s.sp := rfl
@[simp] theorem State.setPc_pc (s : State) (v : Word) : (s.setPc v).pc = v := rfl
@[simp] theorem State.setPc_p (s : State) (v : Word) : (s.setPc v).p = s.p := rfl
@[simp] theorem State.setPc_run (s : State) (v : Word) : (s.setPc v).run = s.run := rfl
@[simp] theorem State.setPc_faultRec (s : State) (v : Word) : (s.setPc v).faultRec = s.faultRec := rfl
@[simp] theorem State.setPc_cost (s : State) (v : Word) : (s.setPc v).cost = s.cost := rfl
@[simp] theorem State.setPc_bus (s : State) (v : Word) : (s.setPc v).bus = s.bus := rfl
@[simp] theorem State.setPc_mem (s : State) (v : Word) : (s.setPc v).mem = s.mem := rfl
@[simp] theorem State.setPc_draws (s : State) (v : Word) : (s.setPc v).draws = s.draws := rfl
@[simp] theorem State.setPc_cfg (s : State) (v : Word) : (s.setPc v).cfg = s.cfg := rfl

@[simp] theorem State.setNZ_a (s : State) (v : Byte) : (s.setNZ v).a = s.a := rfl
@[simp] theorem State.setNZ_x (s : State) (v : Byte) : (s.setNZ v).x = s.x := rfl
@[simp] theorem State.setNZ_y (s : State) (v : Byte) : (s.setNZ v).y = s.y := rfl
@[simp] theorem State.setNZ_sp (s : State) (v : Byte) : (s.setNZ v).sp = s.sp := rfl
@[simp] theorem State.setNZ_pc (s : State) (v : Byte) : (s.setNZ v).pc = s.pc := rfl
@[simp] theorem State.setNZ_p (s : State) (v : Byte) : (s.setNZ v).p = Machine.setNZ v s.p := rfl
@[simp] theorem State.setNZ_run (s : State) (v : Byte) : (s.setNZ v).run = s.run := rfl
@[simp] theorem State.setNZ_faultRec (s : State) (v : Byte) : (s.setNZ v).faultRec = s.faultRec := rfl
@[simp] theorem State.setNZ_cost (s : State) (v : Byte) : (s.setNZ v).cost = s.cost := rfl
@[simp] theorem State.setNZ_bus (s : State) (v : Byte) : (s.setNZ v).bus = s.bus := rfl
@[simp] theorem State.setNZ_mem (s : State) (v : Byte) : (s.setNZ v).mem = s.mem := rfl
@[simp] theorem State.setNZ_draws (s : State) (v : Byte) : (s.setNZ v).draws = s.draws := rfl
@[simp] theorem State.setNZ_cfg (s : State) (v : Byte) : (s.setNZ v).cfg = s.cfg := rfl

@[simp] theorem State.setFlag_a (s : State) (f : Flag) (on : Bool) : (s.setFlag f on).a = s.a := rfl
@[simp] theorem State.setFlag_x (s : State) (f : Flag) (on : Bool) : (s.setFlag f on).x = s.x := rfl
@[simp] theorem State.setFlag_y (s : State) (f : Flag) (on : Bool) : (s.setFlag f on).y = s.y := rfl
@[simp] theorem State.setFlag_sp (s : State) (f : Flag) (on : Bool) : (s.setFlag f on).sp = s.sp := rfl
@[simp] theorem State.setFlag_pc (s : State) (f : Flag) (on : Bool) : (s.setFlag f on).pc = s.pc := rfl
@[simp] theorem State.setFlag_p (s : State) (f : Flag) (on : Bool) : (s.setFlag f on).p = Machine.setFlag f on s.p := rfl
@[simp] theorem State.setFlag_run (s : State) (f : Flag) (on : Bool) : (s.setFlag f on).run = s.run := rfl
@[simp] theorem State.setFlag_faultRec (s : State) (f : Flag) (on : Bool) : (s.setFlag f on).faultRec = s.faultRec := rfl
@[simp] theorem State.setFlag_cost (s : State) (f : Flag) (on : Bool) : (s.setFlag f on).cost = s.cost := rfl
@[simp] theorem State.setFlag_bus (s : State) (f : Flag) (on : Bool) : (s.setFlag f on).bus = s.bus := rfl
@[simp] theorem State.setFlag_mem (s : State) (f : Flag) (on : Bool) : (s.setFlag f on).mem = s.mem := rfl
@[simp] theorem State.setFlag_draws (s : State) (f : Flag) (on : Bool) : (s.setFlag f on).draws = s.draws := rfl
@[simp] theorem State.setFlag_cfg (s : State) (f : Flag) (on : Bool) : (s.setFlag f on).cfg = s.cfg := rfl

@[simp] theorem State.afterRead_a (s : State) (addr : Word) : (s.afterRead addr).a = s.a := rfl
@[simp] theorem State.afterRead_x (s : State) (addr : Word) : (s.afterRead addr).x = s.x := rfl
@[simp] theorem State.afterRead_y (s : State) (addr : Word) : (s.afterRead addr).y = s.y := rfl
@[simp] theorem State.afterRead_sp (s : State) (addr : Word) : (s.afterRead addr).sp = s.sp := rfl
@[simp] theorem State.afterRead_pc (s : State) (addr : Word) : (s.afterRead addr).pc = s.pc := rfl
@[simp] theorem State.afterRead_p (s : State) (addr : Word) : (s.afterRead addr).p = s.p := rfl
@[simp] theorem State.afterRead_run (s : State) (addr : Word) : (s.afterRead addr).run = s.run := rfl
@[simp] theorem State.afterRead_faultRec (s : State) (addr : Word) : (s.afterRead addr).faultRec = s.faultRec := rfl
@[simp] theorem State.afterRead_cost (s : State) (addr : Word) : (s.afterRead addr).cost = s.cost := rfl
@[simp] theorem State.afterRead_bus (s : State) (addr : Word) : (s.afterRead addr).bus = s.bus ++ [⟨.read, addr, s.read addr⟩] := rfl
@[simp] theorem State.afterRead_mem (s : State) (addr : Word) : (s.afterRead addr).mem = s.mem := rfl
@[simp] theorem State.afterRead_draws (s : State) (addr : Word) : (s.afterRead addr).draws = if routeOf s.cfg.memMap addr = .peripheral then s.draws + 1 else s.draws := rfl
@[simp] theorem State.afterRead_cfg (s : State) (addr : Word) : (s.afterRead addr).cfg = s.cfg := rfl

@[simp] theorem State.write_a (s : State) (addr : Word) (v : Byte) : (s.write addr v).a = s.a := rfl
@[simp] theorem State.write_x (s : State) (addr : Word) (v : Byte) : (s.write addr v).x = s.x := rfl
@[simp] theorem State.write_y (s : State) (addr : Word) (v : Byte) : (s.write addr v).y = s.y := rfl
@[simp] theorem State.write_sp (s : State) (addr : Word) (v : Byte) : (s.write addr v).sp = s.sp := rfl
@[simp] theorem State.write_pc (s : State) (addr : Word) (v : Byte) : (s.write addr v).pc = s.pc := rfl
@[simp] theorem State.write_p (s : State) (addr : Word) (v : Byte) : (s.write addr v).p = s.p := rfl
@[simp] theorem State.write_run (s : State) (addr : Word) (v : Byte) : (s.write addr v).run = s.run := rfl
@[simp] theorem State.write_faultRec (s : State) (addr : Word) (v : Byte) : (s.write addr v).faultRec = s.faultRec := rfl
@[simp] theorem State.write_cost (s : State) (addr : Word) (v : Byte) : (s.write addr v).cost = s.cost := rfl
@[simp] theorem State.write_bus (s : State) (addr : Word) (v : Byte) : (s.write addr v).bus = s.bus ++ [⟨.write, addr, v⟩] := rfl
@[simp] theorem State.write_draws (s : State) (addr : Word) (v : Byte) : (s.write addr v).draws = s.draws := rfl
@[simp] theorem State.write_cfg (s : State) (addr : Word) (v : Byte) : (s.write addr v).cfg = s.cfg := rfl

@[simp] theorem State.halt_a (s : State) : s.halt.a = s.a := rfl
@[simp] theorem State.halt_x (s : State) : s.halt.x = s.x := rfl
@[simp] theorem State.halt_y (s : State) : s.halt.y = s.y := rfl
@[simp] theorem State.halt_sp (s : State) : s.halt.sp = s.sp := rfl
@[simp] theorem State.halt_pc (s : State) : s.halt.pc = s.pc := rfl
@[simp] theorem State.halt_p (s : State) : s.halt.p = s.p := rfl
@[simp] theorem State.halt_run (s : State) : s.halt.run = .halted := rfl
@[simp] theorem State.halt_faultRec (s : State) : s.halt.faultRec = s.faultRec := rfl
@[simp] theorem State.halt_cost (s : State) : s.halt.cost = none := rfl
@[simp] theorem State.halt_bus (s : State) : s.halt.bus = s.bus := rfl
@[simp] theorem State.halt_mem (s : State) : s.halt.mem = s.mem := rfl
@[simp] theorem State.halt_draws (s : State) : s.halt.draws = s.draws := rfl
@[simp] theorem State.halt_cfg (s : State) : s.halt.cfg = s.cfg := rfl

@[simp] theorem State.raiseFault_a (s : State) (r : FaultReason) (op : Byte) (at' : Word) : (s.raiseFault r op at').a = s.a := rfl
@[simp] theorem State.raiseFault_x (s : State) (r : FaultReason) (op : Byte) (at' : Word) : (s.raiseFault r op at').x = s.x := rfl
@[simp] theorem State.raiseFault_y (s : State) (r : FaultReason) (op : Byte) (at' : Word) : (s.raiseFault r op at').y = s.y := rfl
@[simp] theorem State.raiseFault_sp (s : State) (r : FaultReason) (op : Byte) (at' : Word) : (s.raiseFault r op at').sp = s.sp := rfl
@[simp] theorem State.raiseFault_pc (s : State) (r : FaultReason) (op : Byte) (at' : Word) : (s.raiseFault r op at').pc = s.pc := rfl
@[simp] theorem State.raiseFault_p (s : State) (r : FaultReason) (op : Byte) (at' : Word) : (s.raiseFault r op at').p = s.p := rfl
@[simp] theorem State.raiseFault_run (s : State) (r : FaultReason) (op : Byte) (at' : Word) : (s.raiseFault r op at').run = .faulted := rfl
@[simp] theorem State.raiseFault_faultRec (s : State) (r : FaultReason) (op : Byte) (at' : Word) : (s.raiseFault r op at').faultRec = some ⟨r, op, at'⟩ := rfl
@[simp] theorem State.raiseFault_cost (s : State) (r : FaultReason) (op : Byte) (at' : Word) : (s.raiseFault r op at').cost = none := rfl
@[simp] theorem State.raiseFault_bus (s : State) (r : FaultReason) (op : Byte) (at' : Word) : (s.raiseFault r op at').bus = s.bus := rfl
@[simp] theorem State.raiseFault_mem (s : State) (r : FaultReason) (op : Byte) (at' : Word) : (s.raiseFault r op at').mem = s.mem := rfl
@[simp] theorem State.raiseFault_draws (s : State) (r : FaultReason) (op : Byte) (at' : Word) : (s.raiseFault r op at').draws = s.draws := rfl
@[simp] theorem State.raiseFault_cfg (s : State) (r : FaultReason) (op : Byte) (at' : Word) : (s.raiseFault r op at').cfg = s.cfg := rfl

@[simp] theorem State.beginStep_a (s : State) : s.beginStep.a = s.a := rfl
@[simp] theorem State.beginStep_x (s : State) : s.beginStep.x = s.x := rfl
@[simp] theorem State.beginStep_y (s : State) : s.beginStep.y = s.y := rfl
@[simp] theorem State.beginStep_sp (s : State) : s.beginStep.sp = s.sp := rfl
@[simp] theorem State.beginStep_pc (s : State) : s.beginStep.pc = s.pc := rfl
@[simp] theorem State.beginStep_p (s : State) : s.beginStep.p = s.p := rfl
@[simp] theorem State.beginStep_run (s : State) : s.beginStep.run = s.run := rfl
@[simp] theorem State.beginStep_faultRec (s : State) : s.beginStep.faultRec = s.faultRec := rfl
@[simp] theorem State.beginStep_cost (s : State) : s.beginStep.cost = none := rfl
@[simp] theorem State.beginStep_bus (s : State) : s.beginStep.bus = [] := rfl
@[simp] theorem State.beginStep_mem (s : State) : s.beginStep.mem = s.mem := rfl
@[simp] theorem State.beginStep_draws (s : State) : s.beginStep.draws = s.draws := rfl
@[simp] theorem State.beginStep_cfg (s : State) : s.beginStep.cfg = s.cfg := rfl

/-- The backing store after a write (R67, R68). -/
theorem State.write_mem (s : State) (addr : Word) (v : Byte) : (s.write addr v).mem =
    match routeOf s.cfg.memMap addr with
      | .ram k => s.mem.write s.cfg.memInit k v
      | .peripheral => s.mem
      | .unbacked => s.mem := rfl

theorem State.write_mem_ram (s : State) (addr : Word) (v : Byte) (k : Nat) (h : routeOf s.cfg.memMap addr = .ram k) :
    (s.write addr v).mem = s.mem.write s.cfg.memInit k v := by rw [State.write_mem, h]

end Sys2Proof.Machine
end

