-- ==== Sys2Proof/Laws/Bus.lean ====
section
/-! SUPPORT. The laws of the bus and the stack: what a read answers, what a write leaves, and that both keep the
canonical form of the backing store. -/

namespace Sys2Proof.Machine

theorem State.read_ram (s : State) {addr : Word} {k : Nat} (h : routeOf s.cfg.memMap addr = .ram k) :
    s.read addr = Memory.read s.cfg.memInit s.mem k := by rw [State.read, h]

theorem State.peek_ram (s : State) {addr : Word} {k : Nat} (h : routeOf s.cfg.memMap addr = .ram k) :
    s.peek addr = some (Memory.read s.cfg.memInit s.mem k) := by rw [State.peek, h]

/-- Where a byte is held, a read answers it. -/
theorem State.read_of_peek (s : State) {addr : Word} {b : Byte} (h : s.peek addr = some b) : s.read addr = b := by
  unfold State.peek at h
  unfold State.read
  split at h <;> simp_all

/-- What an address holds depends on the backing store and the configuration alone. -/
theorem State.peek_congr {s t : State} (hm : t.mem = s.mem) (hc : t.cfg = s.cfg) (addr : Word) :
    t.peek addr = s.peek addr := by unfold State.peek; rw [hm, hc]

@[simp] theorem State.peek_afterRead (s : State) (a b : Word) : (s.afterRead a).peek b = s.peek b :=
  State.peek_congr rfl rfl b

/-- An address that is held outside the peripheral window reads the same whatever was read before. -/
theorem State.read_congr {s t : State} (hm : t.mem = s.mem) (hc : t.cfg = s.cfg) {addr : Word}
    (h : routeOf s.cfg.memMap addr ≠ .peripheral) : t.read addr = s.read addr := by
  unfold State.read
  rw [hc, hm]
  cases hr : routeOf s.cfg.memMap addr <;> simp_all

/-- An access away from the peripheral window uses up no free draw. -/
theorem State.afterRead_draws_of_backed (s : State) {addr : Word} (h : routeOf s.cfg.memMap addr ≠ .peripheral) :
    (s.afterRead addr).draws = s.draws := by rw [State.afterRead_draws, if_neg h]

/-- A read after a write of the same backed address gives the byte written (R66). -/
theorem State.peek_write_same (s : State) {addr : Word} (v : Byte) {k : Nat}
    (h : routeOf s.cfg.memMap addr = .ram k) : (s.write addr v).peek addr = some v := by
  rw [State.peek_ram (s.write addr v) (k := k) (by simpa using h), State.write_mem_ram s addr v k h]
  simp

/-- A write leaves every byte alone that does not share its cell. -/
theorem State.peek_write_other (s : State) {addr other : Word} (v : Byte)
    (h : routeOf s.cfg.memMap other ≠ routeOf s.cfg.memMap addr) : (s.write addr v).peek other = s.peek other := by
  unfold State.peek
  simp only [State.write_cfg, State.write_mem]
  cases ho : routeOf s.cfg.memMap other with
  | ram j =>
    cases ha : routeOf s.cfg.memMap addr with
    | ram k =>
      have hjk : j ≠ k := by
        intro e
        rw [ho, ha, e] at h
        exact h rfl
      simp only [Memory.read_write_other _ _ _ hjk]
    | peripheral => rfl
    | unbacked => rfl
  | peripheral => rfl
  | unbacked => rfl

/-- A bus write keeps the canonical form of the backing store. -/
theorem State.wf_write (s : State) (addr : Word) (v : Byte)
    (h : s.mem.wf s.cfg.memInit (storeSize s.cfg.memMap) = true) :
    (s.write addr v).mem.wf s.cfg.memInit (storeSize s.cfg.memMap) = true := by
  rw [State.write_mem]
  cases hr : routeOf s.cfg.memMap addr with
  | ram k => exact Memory.wf_write _ _ _ k v (routeOf_lt_storeSize _ _ k hr) h
  | peripheral => exact h
  | unbacked => exact h

/-- The stack page is backed under both maps (R72, R68). -/
theorem routeOf_stackAddr (map : MemMap) (sp : Byte) : routeOf map (stackAddr sp) = .ram (256 + sp.toNat) := by
  have key : ∀ map : MemMap, ∀ sp : Byte, routeOf map (stackAddr sp) = .ram (256 + sp.toNat) := by
    intro map; cases map <;> decide
  exact key map sp

theorem stackAddr_route_ne {map : MemMap} {p q : Byte} (h : p ≠ q) :
    routeOf map (stackAddr p) ≠ routeOf map (stackAddr q) := by
  rw [routeOf_stackAddr, routeOf_stackAddr]
  intro e
  simp only [Route.ram.injEq] at e
  exact h (BitVec.eq_of_toNat_eq (by omega))

/-! The stack operations, field by field (R70, R71). -/

@[simp] theorem State.push_a (s : State) (v : Byte) : (s.push v).a = s.a := rfl
@[simp] theorem State.push_x (s : State) (v : Byte) : (s.push v).x = s.x := rfl
@[simp] theorem State.push_y (s : State) (v : Byte) : (s.push v).y = s.y := rfl
@[simp] theorem State.push_sp (s : State) (v : Byte) : (s.push v).sp = s.sp - 1 := rfl
@[simp] theorem State.push_pc (s : State) (v : Byte) : (s.push v).pc = s.pc := rfl
@[simp] theorem State.push_p (s : State) (v : Byte) : (s.push v).p = s.p := rfl
@[simp] theorem State.push_run (s : State) (v : Byte) : (s.push v).run = s.run := rfl
@[simp] theorem State.push_faultRec (s : State) (v : Byte) : (s.push v).faultRec = s.faultRec := rfl
@[simp] theorem State.push_cost (s : State) (v : Byte) : (s.push v).cost = s.cost := rfl
@[simp] theorem State.push_bus (s : State) (v : Byte) : (s.push v).bus = s.bus ++ [⟨.write, stackAddr s.sp, v⟩] := rfl
@[simp] theorem State.push_mem (s : State) (v : Byte) : (s.push v).mem = (s.write (stackAddr s.sp) v).mem := rfl
@[simp] theorem State.push_draws (s : State) (v : Byte) : (s.push v).draws = s.draws := rfl
@[simp] theorem State.push_cfg (s : State) (v : Byte) : (s.push v).cfg = s.cfg := rfl
@[simp] theorem State.afterPop_a (s : State) : s.afterPop.a = s.a := rfl
@[simp] theorem State.afterPop_x (s : State) : s.afterPop.x = s.x := rfl
@[simp] theorem State.afterPop_y (s : State) : s.afterPop.y = s.y := rfl
@[simp] theorem State.afterPop_sp (s : State) : s.afterPop.sp = s.sp + 1 := rfl
@[simp] theorem State.afterPop_pc (s : State) : s.afterPop.pc = s.pc := rfl
@[simp] theorem State.afterPop_p (s : State) : s.afterPop.p = s.p := rfl
@[simp] theorem State.afterPop_run (s : State) : s.afterPop.run = s.run := rfl
@[simp] theorem State.afterPop_faultRec (s : State) : s.afterPop.faultRec = s.faultRec := rfl
@[simp] theorem State.afterPop_cost (s : State) : s.afterPop.cost = s.cost := rfl
@[simp] theorem State.afterPop_bus (s : State) : s.afterPop.bus = s.bus ++ [⟨.read, stackAddr (s.sp + 1), s.popVal⟩] := rfl
@[simp] theorem State.afterPop_mem (s : State) : s.afterPop.mem = s.mem := rfl
@[simp] theorem State.afterPop_draws (s : State) : s.afterPop.draws = s.draws := by
  rw [State.afterPop, State.afterRead_draws, if_neg] <;> simp [routeOf_stackAddr]
@[simp] theorem State.afterPop_cfg (s : State) : s.afterPop.cfg = s.cfg := rfl

/-- pop() gives the byte held at the incremented stack pointer (R71). -/
theorem State.peek_popVal (s : State) : s.peek (stackAddr (s.sp + 1)) = some s.popVal := by
  rw [State.peek_ram s (routeOf_stackAddr _ _), State.popVal, State.read_ram s (routeOf_stackAddr _ _)]

end Sys2Proof.Machine
end

