-- ==== Sys2Proof/Laws/Boot.lean ====
section
/-! SUPPORT. The laws of the host's operations (R340, R342): what the byte writes of a load leave in memory, and the
fields that a load and a reset leave alone. -/

namespace Sys2Proof.Machine

/-- The byte writes of a load change memory and the bus record alone (R342). -/
theorem State.writeBytes_frame (s : State) (addr : Word) (bytes : List Byte) :
    s.writeBytes addr bytes =
      { s with mem := (s.writeBytes addr bytes).mem, bus := (s.writeBytes addr bytes).bus } := by
  induction bytes generalizing s addr with
  | nil => rfl
  | cons b bytes ih => rw [State.writeBytes, ih]; rfl

@[simp] theorem State.writeBytes_cfg (s : State) (addr : Word) (bytes : List Byte) :
    (s.writeBytes addr bytes).cfg = s.cfg := by rw [State.writeBytes_frame]

/-- An address that shares no place with the bytes written holds what it held. -/
theorem State.peek_writeBytes_other (s : State) (addr : Word) (bytes : List Byte) (other : Word)
    (h : ∀ k, k < bytes.length →
      routeOf s.cfg.memMap other ≠ routeOf s.cfg.memMap (addr + BitVec.ofNat 16 k)) :
    (s.writeBytes addr bytes).peek other = s.peek other := by
  induction bytes generalizing s addr with
  | nil => rfl
  | cons b bytes ih =>
    rw [State.writeBytes, ih]
    · exact State.peek_write_other s b (by simpa using h 0 (by simp))
    · intro k hk
      have := h (k + 1) (by simpa using hk)
      rwa [show addr + BitVec.ofNat 16 (k + 1) = addr + 1 + BitVec.ofNat 16 k by
        apply BitVec.eq_of_toNat_eq; simp; omega] at this

/-- A backed byte that no later one overwrites is held after the writes. -/
theorem State.peek_writeBytes (s : State) (addr : Word) (bytes : List Byte) (k cell : Nat) (hk : k < bytes.length)
    (hc : routeOf s.cfg.memMap (addr + BitVec.ofNat 16 k) = .ram cell)
    (h : ∀ j, k < j → j < bytes.length →
      routeOf s.cfg.memMap (addr + BitVec.ofNat 16 k) ≠ routeOf s.cfg.memMap (addr + BitVec.ofNat 16 j)) :
    (s.writeBytes addr bytes).peek (addr + BitVec.ofNat 16 k) = some (bytes.getD k 0) := by
  have shift : ∀ j : Nat, addr + BitVec.ofNat 16 (j + 1) = addr + 1 + BitVec.ofNat 16 j := by
    intro j; apply BitVec.eq_of_toNat_eq; simp; omega
  induction bytes generalizing s addr k with
  | nil => simp at hk
  | cons b bytes ih =>
    rw [State.writeBytes]
    cases k with
    | zero =>
      rw [State.peek_writeBytes_other _ _ _ _ fun j hj => by
        rw [← shift]; exact h (j + 1) (by omega) (by simpa using hj)]
      simpa using State.peek_write_same s b (by simpa using hc)
    | succ k =>
      rw [shift] at hc ⊢
      rw [ih (s.write addr b) (addr + 1) k (by simpa using hk) hc ?_ ?_]
      · rfl
      · intro j hj hl
        have := h (j + 1) (by omega) (by simpa using hl)
        rwa [shift, shift] at this
      · intro j; apply BitVec.eq_of_toNat_eq; simp; omega

/-- A reset leaves memory and the configuration as they were (R49, R340). -/
@[simp] theorem State.hostReset_mem (s : State) : s.hostReset.mem = s.mem := rfl
@[simp] theorem State.hostReset_cfg (s : State) : s.hostReset.cfg = s.cfg := rfl

end Sys2Proof.Machine
end

