-- ==== Sys2Proof/Laws/Operands.lean ====
section
/-! SUPPORT. What the resolver and the operand accesses can do: they change nothing but the bus record, and the count
of free draws where a byte is read from the peripheral window. -/

namespace Sys2Proof.Machine

@[simp] theorem State.afterZpPtr_draws (s : State) (ptr : Byte) : (s.afterZpPtr ptr).draws = s.draws := by
  unfold State.afterZpPtr
  rw [State.afterRead_draws_of_backed, State.afterRead_draws_of_backed] <;>
    simp [routeOf_zext16]

/-- A pointer read within page 0, by what the two addresses answer (R118, R119). -/
theorem State.readZpPtr_eq (s : State) (ptr : Byte) :
    s.readZpPtr ptr = word16 (s.read (zext16 (ptr + 1))) (s.read (zext16 ptr)) := by
  unfold State.readZpPtr
  rw [State.read_congr (s := s) (t := s.afterRead (zext16 ptr)) rfl rfl (by simp [routeOf_zext16])]

@[simp] theorem State.afterEa_a (s : State) (o : Operand) : (s.afterEa o).a = s.a := by cases o <;> rfl
@[simp] theorem State.afterEa_x (s : State) (o : Operand) : (s.afterEa o).x = s.x := by cases o <;> rfl
@[simp] theorem State.afterEa_y (s : State) (o : Operand) : (s.afterEa o).y = s.y := by cases o <;> rfl
@[simp] theorem State.afterEa_sp (s : State) (o : Operand) : (s.afterEa o).sp = s.sp := by cases o <;> rfl
@[simp] theorem State.afterEa_pc (s : State) (o : Operand) : (s.afterEa o).pc = s.pc := by cases o <;> rfl
@[simp] theorem State.afterEa_p (s : State) (o : Operand) : (s.afterEa o).p = s.p := by cases o <;> rfl
@[simp] theorem State.afterEa_run (s : State) (o : Operand) : (s.afterEa o).run = s.run := by cases o <;> rfl
@[simp] theorem State.afterEa_faultRec (s : State) (o : Operand) : (s.afterEa o).faultRec = s.faultRec := by cases o <;> rfl
@[simp] theorem State.afterEa_cost (s : State) (o : Operand) : (s.afterEa o).cost = s.cost := by cases o <;> rfl
@[simp] theorem State.afterEa_mem (s : State) (o : Operand) : (s.afterEa o).mem = s.mem := by cases o <;> rfl
@[simp] theorem State.afterEa_draws (s : State) (o : Operand) : (s.afterEa o).draws = s.draws := by
  cases o <;> simp [State.afterEa]
@[simp] theorem State.afterEa_cfg (s : State) (o : Operand) : (s.afterEa o).cfg = s.cfg := by cases o <;> rfl

/-- The bus record after the resolver: two pointer reads for the indirect modes, nothing for the others (R110). -/
theorem State.afterEa_bus (s : State) (o : Operand) : (s.afterEa o).bus = s.bus ++ (match o with
    | .indx a => [⟨.read, zext16 (a + s.x), s.read (zext16 (a + s.x))⟩,
        ⟨.read, zext16 (a + s.x + 1), s.read (zext16 (a + s.x + 1))⟩]
    | .indy a => [⟨.read, zext16 a, s.read (zext16 a)⟩, ⟨.read, zext16 (a + 1), s.read (zext16 (a + 1))⟩]
    | _ => []) := by
  have key : ∀ ptr : Byte, (s.afterRead (zext16 ptr)).read (zext16 (ptr + 1)) = s.read (zext16 (ptr + 1)) :=
    fun ptr => State.read_congr (s := s) (t := s.afterRead (zext16 ptr)) rfl rfl (by simp [routeOf_zext16])
  cases o <;> simp [State.afterEa, State.afterZpPtr] <;> exact key _

/-- The resolver changes no answer of the bus. -/
@[simp] theorem State.read_afterEa (s : State) (o : Operand) (addr : Word) : (s.afterEa o).read addr = s.read addr := by
  unfold State.read
  rw [State.afterEa_cfg, State.afterEa_mem, State.afterEa_draws]

@[simp] theorem State.peek_afterEa (s : State) (o : Operand) (addr : Word) : (s.afterEa o).peek addr = s.peek addr :=
  State.peek_congr (State.afterEa_mem s o) (State.afterEa_cfg s o) addr

/-- M is what the bus answers at the effective address, but for Immediate, whose byte the fetch has read. -/
theorem State.operandVal_eq (s : State) (o : Operand) :
    s.operandVal o = match o with | .imm d => d | o => s.read (s.ea o) := by
  cases o <;> simp [State.operandVal]

@[simp] theorem State.afterOperand_a (s : State) (o : Operand) : (s.afterOperand o).a = s.a := by
  cases o <;> rfl
@[simp] theorem State.afterOperand_x (s : State) (o : Operand) : (s.afterOperand o).x = s.x := by
  cases o <;> rfl
@[simp] theorem State.afterOperand_y (s : State) (o : Operand) : (s.afterOperand o).y = s.y := by
  cases o <;> rfl
@[simp] theorem State.afterOperand_sp (s : State) (o : Operand) : (s.afterOperand o).sp = s.sp := by
  cases o <;> rfl
@[simp] theorem State.afterOperand_pc (s : State) (o : Operand) : (s.afterOperand o).pc = s.pc := by
  cases o <;> rfl
@[simp] theorem State.afterOperand_p (s : State) (o : Operand) : (s.afterOperand o).p = s.p := by
  cases o <;> rfl
@[simp] theorem State.afterOperand_run (s : State) (o : Operand) : (s.afterOperand o).run = s.run := by
  cases o <;> rfl
@[simp] theorem State.afterOperand_faultRec (s : State) (o : Operand) : (s.afterOperand o).faultRec = s.faultRec := by
  cases o <;> rfl
@[simp] theorem State.afterOperand_cost (s : State) (o : Operand) : (s.afterOperand o).cost = s.cost := by
  cases o <;> rfl
@[simp] theorem State.afterOperand_mem (s : State) (o : Operand) : (s.afterOperand o).mem = s.mem := by
  cases o <;> rfl
@[simp] theorem State.afterOperand_cfg (s : State) (o : Operand) : (s.afterOperand o).cfg = s.cfg := by
  cases o <;> rfl

@[simp] theorem State.peek_afterOperand (s : State) (o : Operand) (addr : Word) :
    (s.afterOperand o).peek addr = s.peek addr :=
  State.peek_congr (State.afterOperand_mem s o) (State.afterOperand_cfg s o) addr

/-- The bus record after the resolver and the read of M: one data read, none for Immediate (R74). -/
theorem State.afterOperand_bus (s : State) (o : Operand) : (s.afterOperand o).bus = (s.afterEa o).bus ++ (match o with
    | .imm _ => []
    | o => [⟨.read, s.ea o, s.operandVal o⟩]) := by
  cases o <;> simp [State.afterOperand, State.operandVal, State.afterEa]

/-- A handler's call of the resolver, for every operand but Implied. -/
theorem State.withEa_of_mode (s : State) {o : Operand} (h : o.mode ≠ .implied) (k : Word → State → Effect) :
    s.withEa o k = k (s.ea o) (s.afterEa o) := if_neg h

/-- A handler that reads M, for every operand but Implied. -/
theorem State.withM_of_mode (s : State) {o : Operand} (h : o.mode ≠ .implied) (k : Byte → State → Effect) :
    s.withM o k = k (s.operandVal o) (s.afterOperand o) := if_neg h

/-- A storing handler, for every operand but Implied. -/
theorem State.storing_of_mode (s : State) {o : Operand} (h : o.mode ≠ .implied) (v : Byte) :
    s.storing o v = .done ((s.afterEa o).write (s.ea o) v) := if_neg h

/-- A read-modify-write handler, for every operand but Implied. -/
theorem State.modifying_of_mode (s : State) {o : Operand} (h : o.mode ≠ .implied) (r : Byte → Byte)
    (k : Byte → State → State) :
    s.modifying o r k =
      .done (k (s.operandVal o) ((s.afterOperand o).write (s.ea o) (r (s.operandVal o)))) := if_neg h

end Sys2Proof.Machine
end

