-- ==== Sys2Proof/Laws/Engine.lean ====
section
/-! SUPPORT. What the engine can do around a handler (R134 to R139, R147): the cases of State.enter, the fields after
State.finish, and what a step is in each run state. -/

namespace Sys2Proof.Machine

/-- An official instruction runs under every configuration (R324). -/
theorem State.enter_official (s : State) {i : Instr} (h : i.entry.cls = .official) (handler : State → Effect) :
    s.enter i handler = .next (s.finish i.entry (handler s)) := by
  simp [State.enter, h]

/-- A mapped instruction runs under UNDOC_POLICY = implement (R280). -/
theorem State.enter_mapped (s : State) {i : Instr} (h : i.entry.cls ≠ .unmapped)
    (hp : s.cfg.undocPolicy = .implement) (handler : State → Effect) :
    s.enter i handler = .next (s.finish i.entry (handler s)) := by
  simp [State.enter, h, hp]

/-- An unmapped value runs the fallback without STRICT_DECODE (R104). -/
theorem State.enter_lenient (s : State) {i : Instr} (hs : s.cfg.strictDecode = false)
    (hp : s.cfg.undocPolicy = .implement) (handler : State → Effect) :
    s.enter i handler = .next (s.finish i.entry (handler s)) := by
  simp [State.enter, hs, hp]

/-- The three cases of an instruction's run (R324). -/
theorem State.enter_cases (s : State) (i : Instr) (handler : State → Effect) :
    (i.entry.cls ≠ .official ∧ s.cfg.undocPolicy = .refuse ∧
      s.enter i handler = .refused (.undocumentedRefused i.entry.opcode (s.pc - 1))) ∨
    (i.entry.cls = .unmapped ∧ s.cfg.strictDecode = true ∧
      s.enter i handler = .next (s.raiseFault .unmappedOpcode i.entry.opcode (s.pc - 1))) ∨
    s.enter i handler = .next (s.finish i.entry (handler s)) := by
  unfold State.enter
  split
  · exact .inl ⟨by tauto, by tauto, rfl⟩
  · split
    · exact .inr (.inl ⟨by tauto, by tauto, rfl⟩)
    · exact .inr (.inr rfl)

/-- The state a handler ends in, whatever it did to PC. -/
def Effect.state : Effect → State
  | .done t => t
  | .jump _ t => t
  | .raise _ t => t

/-- Whether a handler raised a fault. -/
def Effect.raised : Effect → Bool
  | .done _ => false
  | .jump _ _ => false
  | .raise _ _ => true

@[simp] theorem State.finish_a (s : State) (e : Entry) (r : Effect) : (s.finish e r).a = r.state.a := by cases r <;> rfl
@[simp] theorem State.finish_x (s : State) (e : Entry) (r : Effect) : (s.finish e r).x = r.state.x := by cases r <;> rfl
@[simp] theorem State.finish_y (s : State) (e : Entry) (r : Effect) : (s.finish e r).y = r.state.y := by cases r <;> rfl
@[simp] theorem State.finish_sp (s : State) (e : Entry) (r : Effect) : (s.finish e r).sp = r.state.sp := by cases r <;> rfl
@[simp] theorem State.finish_p (s : State) (e : Entry) (r : Effect) : (s.finish e r).p = r.state.p := by cases r <;> rfl
@[simp] theorem State.finish_bus (s : State) (e : Entry) (r : Effect) : (s.finish e r).bus = r.state.bus := by cases r <;> rfl
@[simp] theorem State.finish_mem (s : State) (e : Entry) (r : Effect) : (s.finish e r).mem = r.state.mem := by cases r <;> rfl
@[simp] theorem State.finish_draws (s : State) (e : Entry) (r : Effect) : (s.finish e r).draws = r.state.draws := by cases r <;> rfl
@[simp] theorem State.finish_cfg (s : State) (e : Entry) (r : Effect) : (s.finish e r).cfg = r.state.cfg := by cases r <;> rfl

@[simp] theorem State.finish_done (s : State) (e : Entry) (t : State) : s.finish e (.done t) =
    { t with pc := nextPc s.cfg.advancePolicy s.pc e.len none, cost := some e.cycles } := rfl

@[simp] theorem State.finish_jump (s : State) (e : Entry) (w : Word) (t : State) : s.finish e (.jump w t) =
    { t with pc := nextPc s.cfg.advancePolicy s.pc e.len (some w), cost := some e.cycles } := rfl

/-- A handler that does not write PC is followed by the same advance under both policies (R138, R140). -/
@[simp] theorem nextPc_none (policy : AdvancePolicy) (pc1 : Word) (len : Nat) :
    nextPc policy pc1 len none = pc1 + BitVec.ofNat 16 (len - 1) := by
  cases policy <;> simp [nextPc]

/-- The next PC after a handler that wrote target (R138, R140). -/
theorem nextPc_some (policy : AdvancePolicy) (pc1 : Word) (len : Nat) (target : Word) :
    nextPc policy pc1 len (some target) =
      if policy = .compare ∧ target = pc1 then pc1 + BitVec.ofNat 16 (len - 1) else target := by
  cases policy <;> simp [nextPc]

theorem step_ready (s : State) (h : s.run = .ready) :
    step s = exec s.beginStep.fetchInstr s.beginStep.afterFetch := by rw [step, h]

theorem step_stopped (s : State) (h : s.run ≠ .ready) : step s = .next s := by
  unfold step
  cases hr : s.run <;> simp_all

@[simp] theorem State.afterFetch_a (s : State) : s.afterFetch.a = s.a := by
  unfold State.afterFetch
  dsimp only
  split <;> split <;> rfl
@[simp] theorem State.afterFetch_x (s : State) : s.afterFetch.x = s.x := by
  unfold State.afterFetch
  dsimp only
  split <;> split <;> rfl
@[simp] theorem State.afterFetch_y (s : State) : s.afterFetch.y = s.y := by
  unfold State.afterFetch
  dsimp only
  split <;> split <;> rfl
@[simp] theorem State.afterFetch_sp (s : State) : s.afterFetch.sp = s.sp := by
  unfold State.afterFetch
  dsimp only
  split <;> split <;> rfl
@[simp] theorem State.afterFetch_p (s : State) : s.afterFetch.p = s.p := by
  unfold State.afterFetch
  dsimp only
  split <;> split <;> rfl
@[simp] theorem State.afterFetch_run (s : State) : s.afterFetch.run = s.run := by
  unfold State.afterFetch
  dsimp only
  split <;> split <;> rfl
@[simp] theorem State.afterFetch_faultRec (s : State) : s.afterFetch.faultRec = s.faultRec := by
  unfold State.afterFetch
  dsimp only
  split <;> split <;> rfl
@[simp] theorem State.afterFetch_cost (s : State) : s.afterFetch.cost = s.cost := by
  unfold State.afterFetch
  dsimp only
  split <;> split <;> rfl
@[simp] theorem State.afterFetch_mem (s : State) : s.afterFetch.mem = s.mem := by
  unfold State.afterFetch
  dsimp only
  split <;> split <;> rfl
@[simp] theorem State.afterFetch_cfg (s : State) : s.afterFetch.cfg = s.cfg := by
  unfold State.afterFetch
  dsimp only
  split <;> split <;> rfl
@[simp] theorem State.afterFetch_pc (s : State) : s.afterFetch.pc = s.pc + 1 := rfl

end Sys2Proof.Machine
end

