-- ==== Sys2Proof/Laws/Handler.lean ====
section
/-! SUPPORT. exec said once for all 256 constructors: an instruction is its table entry and its operand, and exec is the
engine around the handler that the entry's mnemonic selects. A fact about every instruction is then a fact about the
77 mnemonics. -/

namespace Sys2Proof.Machine

/-- The operand of an instruction: its operand bytes under the mode tag of its form. A branch displacement stands as an
immediate and a JMP (ind) pointer as an absolute operand, the two forms that resolve nothing (R121). -/
def operandOf : Instr → Operand
  | .oraIndx a => .indx a
  | .sloIndx a => .indx a
  | .nopZp04 a => .zp a
  | .oraZp a => .zp a
  | .aslZp a => .zp a
  | .sloZp a => .zp a
  | .oraImm d => .imm d
  | .ancImm0B d => .imm d
  | .nopAbs w => .abs w
  | .oraAbs w => .abs w
  | .aslAbs w => .abs w
  | .sloAbs w => .abs w
  | .bplRel d => .imm d
  | .oraIndy a => .indy a
  | .sloIndy a => .indy a
  | .nopZpx14 a => .zpx a
  | .oraZpx a => .zpx a
  | .aslZpx a => .zpx a
  | .sloZpx a => .zpx a
  | .oraAbsy w => .absy w
  | .sloAbsy w => .absy w
  | .nopAbsx1C w => .absx w
  | .oraAbsx w => .absx w
  | .aslAbsx w => .absx w
  | .sloAbsx w => .absx w
  | .jsrAbs w => .abs w
  | .andIndx a => .indx a
  | .rlaIndx a => .indx a
  | .bitZp a => .zp a
  | .andZp a => .zp a
  | .rolZp a => .zp a
  | .rlaZp a => .zp a
  | .andImm d => .imm d
  | .ancImm2B d => .imm d
  | .bitAbs w => .abs w
  | .andAbs w => .abs w
  | .rolAbs w => .abs w
  | .rlaAbs w => .abs w
  | .bmiRel d => .imm d
  | .andIndy a => .indy a
  | .rlaIndy a => .indy a
  | .nopZpx34 a => .zpx a
  | .andZpx a => .zpx a
  | .rolZpx a => .zpx a
  | .rlaZpx a => .zpx a
  | .andAbsy w => .absy w
  | .rlaAbsy w => .absy w
  | .nopAbsx3C w => .absx w
  | .andAbsx w => .absx w
  | .rolAbsx w => .absx w
  | .rlaAbsx w => .absx w
  | .eorIndx a => .indx a
  | .sreIndx a => .indx a
  | .nopZp44 a => .zp a
  | .eorZp a => .zp a
  | .lsrZp a => .zp a
  | .sreZp a => .zp a
  | .eorImm d => .imm d
  | .alrImm d => .imm d
  | .jmpAbs w => .abs w
  | .eorAbs w => .abs w
  | .lsrAbs w => .abs w
  | .sreAbs w => .abs w
  | .bvcRel d => .imm d
  | .eorIndy a => .indy a
  | .sreIndy a => .indy a
  | .nopZpx54 a => .zpx a
  | .eorZpx a => .zpx a
  | .lsrZpx a => .zpx a
  | .sreZpx a => .zpx a
  | .eorAbsy w => .absy w
  | .sreAbsy w => .absy w
  | .nopAbsx5C w => .absx w
  | .eorAbsx w => .absx w
  | .lsrAbsx w => .absx w
  | .sreAbsx w => .absx w
  | .adcIndx a => .indx a
  | .rraIndx a => .indx a
  | .nopZp64 a => .zp a
  | .adcZp a => .zp a
  | .rorZp a => .zp a
  | .rraZp a => .zp a
  | .adcImm d => .imm d
  | .arrImm d => .imm d
  | .jmpInd w => .abs w
  | .adcAbs w => .abs w
  | .rorAbs w => .abs w
  | .rraAbs w => .abs w
  | .bvsRel d => .imm d
  | .adcIndy a => .indy a
  | .rraIndy a => .indy a
  | .nopZpx74 a => .zpx a
  | .adcZpx a => .zpx a
  | .rorZpx a => .zpx a
  | .rraZpx a => .zpx a
  | .adcAbsy w => .absy w
  | .rraAbsy w => .absy w
  | .nopAbsx7C w => .absx w
  | .adcAbsx w => .absx w
  | .rorAbsx w => .absx w
  | .rraAbsx w => .absx w
  | .nopImm80 d => .imm d
  | .staIndx a => .indx a
  | .nopImm82 d => .imm d
  | .saxIndx a => .indx a
  | .styZp a => .zp a
  | .staZp a => .zp a
  | .stxZp a => .zp a
  | .saxZp a => .zp a
  | .nopImm89 d => .imm d
  | .xaaImm d => .imm d
  | .styAbs w => .abs w
  | .staAbs w => .abs w
  | .stxAbs w => .abs w
  | .saxAbs w => .abs w
  | .bccRel d => .imm d
  | .staIndy a => .indy a
  | .shaIndy a => .indy a
  | .styZpx a => .zpx a
  | .staZpx a => .zpx a
  | .stxZpy a => .zpy a
  | .saxZpy a => .zpy a
  | .staAbsy w => .absy w
  | .tasAbsy w => .absy w
  | .shyAbsx w => .absx w
  | .staAbsx w => .absx w
  | .shxAbsy w => .absy w
  | .shaAbsy w => .absy w
  | .ldyImm d => .imm d
  | .ldaIndx a => .indx a
  | .ldxImm d => .imm d
  | .laxIndx a => .indx a
  | .ldyZp a => .zp a
  | .ldaZp a => .zp a
  | .ldxZp a => .zp a
  | .laxZp a => .zp a
  | .ldaImm d => .imm d
  | .lxaImm d => .imm d
  | .ldyAbs w => .abs w
  | .ldaAbs w => .abs w
  | .ldxAbs w => .abs w
  | .laxAbs w => .abs w
  | .bcsRel d => .imm d
  | .ldaIndy a => .indy a
  | .laxIndy a => .indy a
  | .ldyZpx a => .zpx a
  | .ldaZpx a => .zpx a
  | .ldxZpy a => .zpy a
  | .laxZpy a => .zpy a
  | .ldaAbsy w => .absy w
  | .lasAbsy w => .absy w
  | .ldyAbsx w => .absx w
  | .ldaAbsx w => .absx w
  | .ldxAbsy w => .absy w
  | .laxAbsy w => .absy w
  | .cpyImm d => .imm d
  | .cmpIndx a => .indx a
  | .nopImmC2 d => .imm d
  | .dcpIndx a => .indx a
  | .cpyZp a => .zp a
  | .cmpZp a => .zp a
  | .decZp a => .zp a
  | .dcpZp a => .zp a
  | .cmpImm d => .imm d
  | .sbxImm d => .imm d
  | .cpyAbs w => .abs w
  | .cmpAbs w => .abs w
  | .decAbs w => .abs w
  | .dcpAbs w => .abs w
  | .bneRel d => .imm d
  | .cmpIndy a => .indy a
  | .dcpIndy a => .indy a
  | .nopZpxD4 a => .zpx a
  | .cmpZpx a => .zpx a
  | .decZpx a => .zpx a
  | .dcpZpx a => .zpx a
  | .cmpAbsy w => .absy w
  | .dcpAbsy w => .absy w
  | .nopAbsxDC w => .absx w
  | .cmpAbsx w => .absx w
  | .decAbsx w => .absx w
  | .dcpAbsx w => .absx w
  | .cpxImm d => .imm d
  | .sbcIndx a => .indx a
  | .nopImmE2 d => .imm d
  | .isbIndx a => .indx a
  | .cpxZp a => .zp a
  | .sbcZp a => .zp a
  | .incZp a => .zp a
  | .isbZp a => .zp a
  | .sbcImm d => .imm d
  | .usbcImm d => .imm d
  | .cpxAbs w => .abs w
  | .sbcAbs w => .abs w
  | .incAbs w => .abs w
  | .isbAbs w => .abs w
  | .beqRel d => .imm d
  | .sbcIndy a => .indy a
  | .isbIndy a => .indy a
  | .nopZpxF4 a => .zpx a
  | .sbcZpx a => .zpx a
  | .incZpx a => .zpx a
  | .isbZpx a => .zpx a
  | .sbcAbsy w => .absy w
  | .isbAbsy w => .absy w
  | .nopAbsxFC w => .absx w
  | .sbcAbsx w => .absx w
  | .incAbsx w => .absx w
  | .isbAbsx w => .absx w
  | .brk | .jam02 | .php | .aslAcc | .jam12 | .clc | .nop1A | .jam22
  | .plp | .rolAcc | .jam32 | .sec | .nop3A | .rti | .jam42 | .pha
  | .lsrAcc | .jam52 | .cli | .nop5A | .rts | .jam62 | .pla | .rorAcc
  | .jam72 | .sei | .nop7A | .dey | .txa | .jam92 | .tya | .txs
  | .tay | .tax | .jamB2 | .clv | .tsx | .iny | .dex | .jamD2
  | .cld | .nopDA | .inx | .nop | .jamF2 | .sed | .nopFA => .implied

/-- The byte of an operand that holds one. -/
def Operand.byte : Operand → Byte
  | .imm d => d
  | .zp a | .zpx a | .zpy a | .indx a | .indy a => a
  | .abs w | .absx w | .absy w => lo8 w
  | .implied => 0x00

/-- The word of an operand that holds one. -/
def Operand.word : Operand → Word
  | .abs w | .absx w | .absy w => w
  | .imm _ | .zp _ | .zpx _ | .zpy _ | .indx _ | .indy _ | .implied => 0x0000

/-- The handler an entry selects. BRK has none: it halts in DECODE (R133). -/
def handlerFor (e : Entry) (o : Operand) : State → Effect :=
  match e.mnemonic with
  | .lda => handleLda o
  | .ldx => handleLdx o
  | .ldy => handleLdy o
  | .sta => handleSta o
  | .stx => handleStx o
  | .sty => handleSty o
  | .adc => handleAdc o
  | .sbc => handleSbc o
  | .cmp => handleCmp o
  | .cpx => handleCpx o
  | .cpy => handleCpy o
  | .inc => handleInc o
  | .dec => handleDec o
  | .and => handleAnd o
  | .ora => handleOra o
  | .eor => handleEor o
  | .bit => handleBit o
  | .jsr => handleJsr o
  | .slo => handleSlo o
  | .rla => handleRla o
  | .sre => handleSre o
  | .rra => handleRra o
  | .dcp => handleDcp o
  | .isb => handleIsb o
  | .sax => handleSax o
  | .lax => handleLax o
  | .anc => handleAnc o
  | .alr => handleAlr o
  | .arr => handleArr o
  | .sbx => handleSbx o
  | .usbc => handleUsbc o
  | .xaa => handleXaa o
  | .lxa => handleLxa o
  | .las => handleLas o
  | .tas => handleTas o
  | .sha => handleSha o
  | .shx => handleShx o
  | .shy => handleShy o
  | .tax => handleTax
  | .tay => handleTay
  | .txa => handleTxa
  | .tya => handleTya
  | .tsx => handleTsx
  | .txs => handleTxs
  | .inx => handleInx
  | .iny => handleIny
  | .dex => handleDex
  | .dey => handleDey
  | .pha => handlePha
  | .php => handlePhp
  | .pla => handlePla
  | .plp => handlePlp
  | .clc => handleClc
  | .sec => handleSec
  | .cli => handleCli
  | .sei => handleSei
  | .cld => handleCld
  | .sed => handleSed
  | .clv => handleClv
  | .rts => handleRts
  | .rti => handleRti
  | .bpl => handleBpl o.byte
  | .bmi => handleBmi o.byte
  | .bvc => handleBvc o.byte
  | .bvs => handleBvs o.byte
  | .bcc => handleBcc o.byte
  | .bcs => handleBcs o.byte
  | .bne => handleBne o.byte
  | .beq => handleBeq o.byte
  | .asl => if e.mode = .implied then handleShiftA aslCore else handleShiftM aslCore o
  | .lsr => if e.mode = .implied then handleShiftA lsrCore else handleShiftM lsrCore o
  | .rol => if e.mode = .implied then handleShiftA rolCore else handleShiftM rolCore o
  | .ror => if e.mode = .implied then handleShiftA rorCore else handleShiftM rorCore o
  | .jmp => if e.mode = .implied then handleJmpInd o.word else handleJmp o
  | .nop => if e.mode = .implied then handleNothing else handleNopRead o
  | .jam | .brk => handleNothing

/-- exec, said once (R130): BRK halts, everything else is the engine around its handler. -/
theorem exec_eq (i : Instr) (s : State) : exec i s =
    if i = .brk then .next s.halt else s.enter i (handlerFor i.entry (operandOf i)) := by
  cases i <;> rfl

theorem exec_brk (s : State) : exec .brk s = .next s.halt := rfl

theorem exec_of_ne_brk {i : Instr} (h : i ≠ .brk) (s : State) :
    exec i s = s.enter i (handlerFor i.entry (operandOf i)) := by rw [exec_eq, if_neg h]

/-- An operand carries the mode tag of its entry, but for the forms that carry Implied there (R100). -/
theorem operandOf_mode (i : Instr) : (operandOf i).mode = i.entry.mode ∨ i.entry.mode = .implied := by
  cases i <;> first | exact .inl rfl | exact .inr rfl

/-- A branch raises nothing, taken or not (R255). -/
theorem branch_raised (cond : Bool) (d : Byte) (s : State) : (branch cond d s).raised = false := by
  cases cond <;> rfl

/-- No entry of the table calls the resolver with Implied, so no handler raises a fault (R120, R321). -/
theorem handlerFor_raised (i : Instr) (s : State) : (handlerFor i.entry (operandOf i) s).raised = false := by
  cases i <;> first | rfl | exact branch_raised _ _ s

end Sys2Proof.Machine
end

