-- ==== Sys2Proof/Laws/Frame.lean ====
section
/-! SUPPORT. What no handler touches (R137): the run state, the fault record and the configuration, and what every
handler keeps: the canonical form of memory (R66). -/

namespace Sys2Proof.Machine

@[simp] theorem Effect.state_done (t : State) : (Effect.done t).state = t := rfl
@[simp] theorem Effect.state_jump (w : Word) (t : State) : (Effect.jump w t).state = t := rfl
@[simp] theorem Effect.state_raise (r : FaultReason) (t : State) : (Effect.raise r t).state = t := rfl

/-- No handler changes the run state, the fault record or the configuration: only the engine does, after it. -/
theorem handlerFor_control (e : Entry) (o : Operand) (s : State) :
    (handlerFor e o s).state.run = s.run ∧ (handlerFor e o s).state.faultRec = s.faultRec ∧
    (handlerFor e o s).state.cfg = s.cfg := by
  unfold handlerFor
  cases e.mnemonic <;> dsimp only <;> (repeat' split) <;>
    simp only [
      handleAdc, handleSbc, handleCmp, handleCpx, handleCpy, handleInc, handleDec, handleInx, handleIny,
      handleDex, handleDey, handleJmp, handleJmpInd, handleJsr, handleRts, handleRti, handleBpl, handleBmi,
      handleBvc, handleBvs, handleBcc, handleBcs, handleBne, handleBeq, handleAnd, handleOra, handleEor,
      handleBit, handleShiftA, handleShiftM, handlePha, handlePhp, handlePla, handlePlp, handleClc, handleSec,
      handleCli, handleSei, handleCld, handleSed, handleClv, handleNothing, handleLda, handleLdx, handleLdy,
      handleSta, handleStx, handleSty, handleTax, handleTay, handleTxa, handleTya, handleTsx, handleTxs,
      handleSlo, handleRla, handleSre, handleRra, handleDcp, handleIsb, handleSax, handleLax, handleAnc,
      handleAlr, handleArr, handleSbx, handleUsbc, handleXaa, handleLxa, handleLas, handleTas, handleSha,
      handleShx, handleShy, handleNopRead,
      State.withM, State.withEa, State.storing, State.modifying, branch, State.addToA, State.subFromA, State.setNZ,
      State.setFlag] <;> (repeat' split) <;> simp

/-- Every handler keeps the canonical form of memory. -/
theorem handlerFor_memWf (e : Entry) (o : Operand) (s : State)
    (h : s.mem.wf s.cfg.memInit (storeSize s.cfg.memMap) = true) :
    (handlerFor e o s).state.mem.wf s.cfg.memInit (storeSize s.cfg.memMap) = true := by
  have hw : ∀ (t : State) (addr : Word) (v : Byte), t.cfg = s.cfg →
      t.mem.wf s.cfg.memInit (storeSize s.cfg.memMap) = true →
      (t.write addr v).mem.wf s.cfg.memInit (storeSize s.cfg.memMap) = true := by
    intro t addr v hc hm
    have := State.wf_write t addr v (by rw [hc]; exact hm)
    rwa [hc] at this
  unfold handlerFor
  cases e.mnemonic <;> dsimp only <;> (repeat' split) <;>
    simp only [
      handleAdc, handleSbc, handleCmp, handleCpx, handleCpy, handleInc, handleDec, handleInx, handleIny,
      handleDex, handleDey, handleJmp, handleJmpInd, handleJsr, handleRts, handleRti, handleBpl, handleBmi,
      handleBvc, handleBvs, handleBcc, handleBcs, handleBne, handleBeq, handleAnd, handleOra, handleEor,
      handleBit, handleShiftA, handleShiftM, handlePha, handlePhp, handlePla, handlePlp, handleClc, handleSec,
      handleCli, handleSei, handleCld, handleSed, handleClv, handleNothing, handleLda, handleLdx, handleLdy,
      handleSta, handleStx, handleSty, handleTax, handleTay, handleTxa, handleTya, handleTsx, handleTxs,
      handleSlo, handleRla, handleSre, handleRra, handleDcp, handleIsb, handleSax, handleLax, handleAnc,
      handleAlr, handleArr, handleSbx, handleUsbc, handleXaa, handleLxa, handleLas, handleTas, handleSha,
      handleShx, handleShy, handleNopRead,
      State.withM, State.withEa, State.storing, State.modifying, branch, State.addToA, State.subFromA, State.setNZ,
      State.setFlag] <;> (repeat' split) <;>
    simp only [Effect.state_done, Effect.state_jump, Effect.state_raise, State.setA_mem, State.setX_mem, State.setY_mem,
      State.setSp_mem, State.setP_mem, State.push_mem, State.afterPop_mem, State.afterEa_mem, State.afterOperand_mem,
      State.afterRead_mem] <;>
    first
    | exact h
    | exact hw _ _ _ (by simp) (hw _ _ _ (by simp) (by simp [h]))
    | exact hw _ _ _ (by simp) (by simp [h])

end Sys2Proof.Machine
end

