-- ==== Sys2Proof/Laws/Draws.lean ====
section
/-! SUPPORT. The count of free draws goes with the bus record: whatever exec does, it adds accesses to the record and
uses up one draw for each read of the peripheral window among them (R61, R66). -/

namespace Sys2Proof.Machine

@[simp] theorem drawsOf_nil (map : MemMap) : drawsOf map [] = 0 := rfl

@[simp] theorem drawsOf_append (map : MemMap) (acc acc' : List BusEvent) :
    drawsOf map (acc ++ acc') = drawsOf map acc + drawsOf map acc' := List.countP_append

theorem drawsOf_read (map : MemMap) (addr : Word) (v : Byte) :
    drawsOf map [⟨.read, addr, v⟩] = if routeOf map addr = .peripheral then 1 else 0 := by
  by_cases h : routeOf map addr = .peripheral <;> simp [drawsOf, h]

theorem drawsOf_write (map : MemMap) (addr : Word) (v : Byte) : drawsOf map [⟨.write, addr, v⟩] = 0 := rfl

/-- t comes after s by accesses that account for every draw used up in between. -/
def Accounted (s t : State) : Prop :=
  t.cfg = s.cfg ∧ ∃ acc, t.bus = s.bus ++ acc ∧ t.draws = s.draws + drawsOf s.cfg.memMap acc

theorem Accounted.refl (s : State) : Accounted s s := ⟨rfl, [], by simp, rfl⟩

/-- Being accounted for depends on the bus record, the count and the configuration alone. -/
theorem Accounted.congr {s t u : State} (h : Accounted s t) (hb : u.bus = t.bus) (hd : u.draws = t.draws)
    (hc : u.cfg = t.cfg) : Accounted s u := by
  obtain ⟨h1, acc, h2, h3⟩ := h
  exact ⟨hc.trans h1, acc, hb.trans h2, hd.trans h3⟩

theorem Accounted.afterRead {s t : State} (h : Accounted s t) (addr : Word) : Accounted s (t.afterRead addr) := by
  obtain ⟨h1, acc, h2, h3⟩ := h
  refine ⟨h1, acc ++ [⟨.read, addr, t.read addr⟩], by simp [h2], ?_⟩
  rw [State.afterRead_draws, drawsOf_append, drawsOf_read, h1, h3]
  split <;> rfl

theorem Accounted.write {s t : State} (h : Accounted s t) (addr : Word) (v : Byte) : Accounted s (t.write addr v) := by
  obtain ⟨h1, acc, h2, h3⟩ := h
  exact ⟨h1, acc ++ [⟨.write, addr, v⟩], by simp [h2], by rw [drawsOf_append, drawsOf_write]; exact h3⟩

theorem Accounted.setA {s t : State} (h : Accounted s t) (v : Byte) : Accounted s (t.setA v) := h.congr rfl rfl rfl
theorem Accounted.setX {s t : State} (h : Accounted s t) (v : Byte) : Accounted s (t.setX v) := h.congr rfl rfl rfl
theorem Accounted.setY {s t : State} (h : Accounted s t) (v : Byte) : Accounted s (t.setY v) := h.congr rfl rfl rfl
theorem Accounted.setSp {s t : State} (h : Accounted s t) (v : Byte) : Accounted s (t.setSp v) := h.congr rfl rfl rfl
theorem Accounted.setP {s t : State} (h : Accounted s t) (v : Byte) : Accounted s (t.setP v) := h.congr rfl rfl rfl

theorem Accounted.push {s t : State} (h : Accounted s t) (v : Byte) : Accounted s (t.push v) := (h.write _ v).setSp _

theorem Accounted.afterPop {s t : State} (h : Accounted s t) : Accounted s t.afterPop := (h.setSp _).afterRead _

theorem Accounted.afterEa {s t : State} (h : Accounted s t) (o : Operand) : Accounted s (t.afterEa o) := by
  cases o <;> first | exact h | exact (h.afterRead _).afterRead _

theorem Accounted.afterOperand {s t : State} (h : Accounted s t) (o : Operand) : Accounted s (t.afterOperand o) := by
  cases o <;> first | exact h | exact (h.afterEa _).afterRead _

/-- Every handler accounts for the draws it uses up. -/
theorem handlerFor_accounted (e : Entry) (o : Operand) (s : State) : Accounted s (handlerFor e o s).state := by
  unfold handlerFor
  cases e.mnemonic <;> dsimp only <;> (repeat' split) <;>
    simp only [
      handleAdc, handleSbc, handleCmp, handleCpx, handleCpy, handleInc, handleDec, handleInx, handleIny,
      handleDex, handleDey, handleJmp, handleJmpInd, handleJsr, handleRts, handleRti, handleBpl, handleBmi,
      handleBvc, handleBvs, handleBcc, handleBcs, handleBne, handleBeq, handleAnd, handleOra, handleEor,
      handleBit, handleShiftA, handleShiftM, handlePha, handlePhp, handlePla, handlePlp, handleClc, handleSec,
      handleCli, handleSei, handleCld, handleSed, handleClv, handleNothing, handleLda, handleLdx, handleLdy,
      handleSta, handleStx, handleSty, handleTax, handleTay, handleTxa, handleTya, handleTsx, handleTxs,
      handleSlo, handleRla, handleSre, handleRra, handleDcp, handleIsb, handleSax, handleLax, handleAnc,
      handleAlr, handleArr, handleSbx, handleUsbc, handleXaa, handleLxa, handleLas, handleTas, handleSha,
      handleShx, handleShy, handleNopRead,
      State.withM, State.withEa, State.storing, State.modifying, branch, State.addToA, State.subFromA, State.setNZ,
      State.setFlag] <;> (repeat' split) <;> simp only [Effect.state_done, Effect.state_jump, Effect.state_raise] <;>
    with_reducible (repeat first
      | exact Accounted.refl _ | apply Accounted.setP | apply Accounted.setA | apply Accounted.setX
      | apply Accounted.setY | apply Accounted.setSp | apply Accounted.push | apply Accounted.afterPop
      | apply Accounted.write | apply Accounted.afterRead | apply Accounted.afterOperand | apply Accounted.afterEa)

/-- Whatever exec answers, the accesses it adds to the bus record account for the draws it uses up (R66). -/
theorem exec_accounted {i : Instr} {s t : State} (h : exec i s = .next t) : Accounted s t := by
  rw [exec_eq] at h
  split at h
  · cases h; exact (Accounted.refl s).congr rfl rfl rfl
  · obtain ⟨-, -, h'⟩ | ⟨-, -, h'⟩ | h' := s.enter_cases i (handlerFor i.entry (operandOf i)) <;> rw [h'] at h
    · cases h
    · cases h; exact (Accounted.refl s).congr rfl rfl rfl
    · cases h
      exact (handlerFor_accounted i.entry (operandOf i) s).congr (by simp) (by simp) (by simp)

/-- Where the accesses added are known, so is the count of draws. -/
theorem exec_draws {i : Instr} {s t : State} (h : exec i s = .next t) {acc : List BusEvent}
    (hb : t.bus = s.bus ++ acc) : t.draws = s.draws + drawsOf s.cfg.memMap acc := by
  obtain ⟨-, acc', hb', hd⟩ := exec_accounted h
  rw [hb] at hb'
  rw [hd, List.append_cancel_left hb']

end Sys2Proof.Machine
end

