-- ==== Sys2Proof/Laws/Flags.lean ====
section
/-! SUPPORT. The laws of the status word: get after set, and what each flag is after each flag computation of
alu_logic. -/

namespace Sys2Proof.Machine

/-- A flag set reads as it was set (R36). -/
@[simp] theorem getFlag_setFlag_same (f : Flag) (on : Bool) (p : Byte) : getFlag f (setFlag f on p) = on := by
  cases f <;> cases on <;> revert p <;> decide

/-- Setting a flag leaves every other bit of P as it was (R36). -/
theorem getFlag_setFlag_other {f g : Flag} (on : Bool) (p : Byte) (h : g ≠ f) :
    getFlag g (setFlag f on p) = getFlag g p := by
  cases f <;> cases g <;> first | exact absurd rfl h | (cases on <;> revert p <;> decide)

/-- Both cases at once, for rewriting with concrete flags. -/
theorem getFlag_setFlag (f g : Flag) (on : Bool) (p : Byte) :
    getFlag g (setFlag f on p) = if g = f then on else getFlag g p := by
  split
  · subst g; exact getFlag_setFlag_same f on p
  · exact getFlag_setFlag_other on p ‹_›

/-- A flag after setNZ (R40). -/
theorem getFlag_setNZ (g : Flag) (v p : Byte) : getFlag g (setNZ v p) =
    if g = .z then v == 0x00 else if g = .n then v.getLsbD 7 else getFlag g p := by
  simp only [setNZ, getFlag_setFlag]

/-- P is determined by its eight bits. -/
theorem flags_ext {p q : Byte} (h : ∀ f, getFlag f p = getFlag f q) : p = q := by
  have bit : ∀ p : Byte, p = ((if getFlag .n p then 0x80 else 0) ||| (if getFlag .v p then 0x40 else 0) |||
      (if getFlag .b5 p then 0x20 else 0) ||| (if getFlag .b p then 0x10 else 0) |||
      (if getFlag .d p then 0x08 else 0) ||| (if getFlag .i p then 0x04 else 0) |||
      (if getFlag .z p then 0x02 else 0) ||| (if getFlag .c p then 0x01 else 0)) := by decide
  rw [bit p, bit q]
  simp only [h]

/-- A flag does not depend on the bits of P outside a mask that holds it. -/
theorem getFlag_congr {f : Flag} {mask p q : Byte} (hm : f.mask &&& mask = f.mask) (h : p &&& mask = q &&& mask) :
    getFlag f p = getFlag f q := by
  have key : ∀ r : Byte, r &&& f.mask = (r &&& mask) &&& f.mask := by
    intro r
    rw [BitVec.and_assoc, BitVec.and_comm mask, hm]
  simp only [getFlag]
  rw [key p, key q, h]

/-- Setting the same flag the same way in two status words that agree under a mask gives two that agree under it. -/
theorem setFlag_congr (f : Flag) (on : Bool) {mask p q : Byte} (h : p &&& mask = q &&& mask) :
    setFlag f on p &&& mask = setFlag f on q &&& mask := by
  unfold setFlag
  split
  · rw [BitVec.and_comm (p ||| f.mask), BitVec.and_comm (q ||| f.mask), BitVec.and_or_distrib_left,
      BitVec.and_or_distrib_left, BitVec.and_comm mask p, BitVec.and_comm mask q, h]
  · rw [BitVec.and_assoc, BitVec.and_assoc, BitVec.and_comm (~~~f.mask), ← BitVec.and_assoc, ← BitVec.and_assoc, h]

theorem setNZ_congr (v : Byte) {mask p q : Byte} (h : p &&& mask = q &&& mask) :
    setNZ v p &&& mask = setNZ v q &&& mask := setFlag_congr _ _ (setFlag_congr _ _ h)

end Sys2Proof.Machine
end

