-- ==== Sys2Proof/WellFormed.lean ====
section
/-! DEFINITION. Well-formedness. An instruction's operands are bit vectors of exactly the widths of their form (R91),
so what is left to check is its table entry: the length rule R93, the length of its form (R91), a cost, and the
shape of an unmapped value's entry (R104). -/

namespace Sys2Proof

/-- The lengths a mode tag admits (R91, R100): the forms acc, rel and ind carry Implied and have lengths 1, 2, 3. -/
def Mode.lenFits : Mode → Nat → Bool
  | .immediate, n | .zeroPage, n | .zeroPageX, n | .zeroPageY, n | .indirectX, n | .indirectY, n => n == 2
  | .absolute, n | .absoluteX, n | .absoluteY, n => n == 3
  | .implied, n => 1 ≤ n && n ≤ 3

/-- A table entry is well-formed: its length is the length of its form and between 1 and 3 (R93), its cost is not
0, and an unmapped value has the fallback's length, cost and mode (R104). -/
def Entry.wf (e : Entry) : Bool :=
  (1 ≤ e.len && e.len ≤ 3) && e.mode.lenFits e.len && 1 ≤ e.cycles &&
    (e.cls != .unmapped || (e.mode == .implied && e.len == 1 && e.cycles == 1))

/-- An instruction is well-formed when its table entry is. -/
def Instr.wf (i : Instr) : Bool := i.entry.wf

end Sys2Proof
end

