-- ==== Sys2Proof/Laws/PerInstr.lean ====
section
/-! SUPPORT. Facts made per instruction: the family Shape, one lemma per constructor of Instr. -/

namespace Sys2Proof.Laws.Shape

/-- The encoding begins with the opcode byte of the instruction's table entry, it has as many bytes as the entry's
length says, and the instruction is well-formed (R90, R93). -/
def Statement (i : Instr) : Prop :=
  (encode i).head? = some i.entry.opcode ∧ (encode i).length = i.entry.len ∧ i.wf = true

theorem brk : Statement .brk := ⟨rfl, rfl, rfl⟩
theorem oraIndx (a : Byte) : Statement (.oraIndx a) := ⟨rfl, rfl, rfl⟩
theorem jam02 : Statement .jam02 := ⟨rfl, rfl, rfl⟩
theorem sloIndx (a : Byte) : Statement (.sloIndx a) := ⟨rfl, rfl, rfl⟩
theorem nopZp04 (a : Byte) : Statement (.nopZp04 a) := ⟨rfl, rfl, rfl⟩
theorem oraZp (a : Byte) : Statement (.oraZp a) := ⟨rfl, rfl, rfl⟩
theorem aslZp (a : Byte) : Statement (.aslZp a) := ⟨rfl, rfl, rfl⟩
theorem sloZp (a : Byte) : Statement (.sloZp a) := ⟨rfl, rfl, rfl⟩
theorem php : Statement .php := ⟨rfl, rfl, rfl⟩
theorem oraImm (d : Byte) : Statement (.oraImm d) := ⟨rfl, rfl, rfl⟩
theorem aslAcc : Statement .aslAcc := ⟨rfl, rfl, rfl⟩
theorem ancImm0B (d : Byte) : Statement (.ancImm0B d) := ⟨rfl, rfl, rfl⟩
theorem nopAbs (w : Word) : Statement (.nopAbs w) := ⟨rfl, rfl, rfl⟩
theorem oraAbs (w : Word) : Statement (.oraAbs w) := ⟨rfl, rfl, rfl⟩
theorem aslAbs (w : Word) : Statement (.aslAbs w) := ⟨rfl, rfl, rfl⟩
theorem sloAbs (w : Word) : Statement (.sloAbs w) := ⟨rfl, rfl, rfl⟩
theorem bplRel (d : Byte) : Statement (.bplRel d) := ⟨rfl, rfl, rfl⟩
theorem oraIndy (a : Byte) : Statement (.oraIndy a) := ⟨rfl, rfl, rfl⟩
theorem jam12 : Statement .jam12 := ⟨rfl, rfl, rfl⟩
theorem sloIndy (a : Byte) : Statement (.sloIndy a) := ⟨rfl, rfl, rfl⟩
theorem nopZpx14 (a : Byte) : Statement (.nopZpx14 a) := ⟨rfl, rfl, rfl⟩
theorem oraZpx (a : Byte) : Statement (.oraZpx a) := ⟨rfl, rfl, rfl⟩
theorem aslZpx (a : Byte) : Statement (.aslZpx a) := ⟨rfl, rfl, rfl⟩
theorem sloZpx (a : Byte) : Statement (.sloZpx a) := ⟨rfl, rfl, rfl⟩
theorem clc : Statement .clc := ⟨rfl, rfl, rfl⟩
theorem oraAbsy (w : Word) : Statement (.oraAbsy w) := ⟨rfl, rfl, rfl⟩
theorem nop1A : Statement .nop1A := ⟨rfl, rfl, rfl⟩
theorem sloAbsy (w : Word) : Statement (.sloAbsy w) := ⟨rfl, rfl, rfl⟩
theorem nopAbsx1C (w : Word) : Statement (.nopAbsx1C w) := ⟨rfl, rfl, rfl⟩
theorem oraAbsx (w : Word) : Statement (.oraAbsx w) := ⟨rfl, rfl, rfl⟩
theorem aslAbsx (w : Word) : Statement (.aslAbsx w) := ⟨rfl, rfl, rfl⟩
theorem sloAbsx (w : Word) : Statement (.sloAbsx w) := ⟨rfl, rfl, rfl⟩
theorem jsrAbs (w : Word) : Statement (.jsrAbs w) := ⟨rfl, rfl, rfl⟩
theorem andIndx (a : Byte) : Statement (.andIndx a) := ⟨rfl, rfl, rfl⟩
theorem jam22 : Statement .jam22 := ⟨rfl, rfl, rfl⟩
theorem rlaIndx (a : Byte) : Statement (.rlaIndx a) := ⟨rfl, rfl, rfl⟩
theorem bitZp (a : Byte) : Statement (.bitZp a) := ⟨rfl, rfl, rfl⟩
theorem andZp (a : Byte) : Statement (.andZp a) := ⟨rfl, rfl, rfl⟩
theorem rolZp (a : Byte) : Statement (.rolZp a) := ⟨rfl, rfl, rfl⟩
theorem rlaZp (a : Byte) : Statement (.rlaZp a) := ⟨rfl, rfl, rfl⟩
theorem plp : Statement .plp := ⟨rfl, rfl, rfl⟩
theorem andImm (d : Byte) : Statement (.andImm d) := ⟨rfl, rfl, rfl⟩
theorem rolAcc : Statement .rolAcc := ⟨rfl, rfl, rfl⟩
theorem ancImm2B (d : Byte) : Statement (.ancImm2B d) := ⟨rfl, rfl, rfl⟩
theorem bitAbs (w : Word) : Statement (.bitAbs w) := ⟨rfl, rfl, rfl⟩
theorem andAbs (w : Word) : Statement (.andAbs w) := ⟨rfl, rfl, rfl⟩
theorem rolAbs (w : Word) : Statement (.rolAbs w) := ⟨rfl, rfl, rfl⟩
theorem rlaAbs (w : Word) : Statement (.rlaAbs w) := ⟨rfl, rfl, rfl⟩
theorem bmiRel (d : Byte) : Statement (.bmiRel d) := ⟨rfl, rfl, rfl⟩
theorem andIndy (a : Byte) : Statement (.andIndy a) := ⟨rfl, rfl, rfl⟩
theorem jam32 : Statement .jam32 := ⟨rfl, rfl, rfl⟩
theorem rlaIndy (a : Byte) : Statement (.rlaIndy a) := ⟨rfl, rfl, rfl⟩
theorem nopZpx34 (a : Byte) : Statement (.nopZpx34 a) := ⟨rfl, rfl, rfl⟩
theorem andZpx (a : Byte) : Statement (.andZpx a) := ⟨rfl, rfl, rfl⟩
theorem rolZpx (a : Byte) : Statement (.rolZpx a) := ⟨rfl, rfl, rfl⟩
theorem rlaZpx (a : Byte) : Statement (.rlaZpx a) := ⟨rfl, rfl, rfl⟩
theorem sec : Statement .sec := ⟨rfl, rfl, rfl⟩
theorem andAbsy (w : Word) : Statement (.andAbsy w) := ⟨rfl, rfl, rfl⟩
theorem nop3A : Statement .nop3A := ⟨rfl, rfl, rfl⟩
theorem rlaAbsy (w : Word) : Statement (.rlaAbsy w) := ⟨rfl, rfl, rfl⟩
theorem nopAbsx3C (w : Word) : Statement (.nopAbsx3C w) := ⟨rfl, rfl, rfl⟩
theorem andAbsx (w : Word) : Statement (.andAbsx w) := ⟨rfl, rfl, rfl⟩
theorem rolAbsx (w : Word) : Statement (.rolAbsx w) := ⟨rfl, rfl, rfl⟩
theorem rlaAbsx (w : Word) : Statement (.rlaAbsx w) := ⟨rfl, rfl, rfl⟩
theorem rti : Statement .rti := ⟨rfl, rfl, rfl⟩
theorem eorIndx (a : Byte) : Statement (.eorIndx a) := ⟨rfl, rfl, rfl⟩
theorem jam42 : Statement .jam42 := ⟨rfl, rfl, rfl⟩
theorem sreIndx (a : Byte) : Statement (.sreIndx a) := ⟨rfl, rfl, rfl⟩
theorem nopZp44 (a : Byte) : Statement (.nopZp44 a) := ⟨rfl, rfl, rfl⟩
theorem eorZp (a : Byte) : Statement (.eorZp a) := ⟨rfl, rfl, rfl⟩
theorem lsrZp (a : Byte) : Statement (.lsrZp a) := ⟨rfl, rfl, rfl⟩
theorem sreZp (a : Byte) : Statement (.sreZp a) := ⟨rfl, rfl, rfl⟩
theorem pha : Statement .pha := ⟨rfl, rfl, rfl⟩
theorem eorImm (d : Byte) : Statement (.eorImm d) := ⟨rfl, rfl, rfl⟩
theorem lsrAcc : Statement .lsrAcc := ⟨rfl, rfl, rfl⟩
theorem alrImm (d : Byte) : Statement (.alrImm d) := ⟨rfl, rfl, rfl⟩
theorem jmpAbs (w : Word) : Statement (.jmpAbs w) := ⟨rfl, rfl, rfl⟩
theorem eorAbs (w : Word) : Statement (.eorAbs w) := ⟨rfl, rfl, rfl⟩
theorem lsrAbs (w : Word) : Statement (.lsrAbs w) := ⟨rfl, rfl, rfl⟩
theorem sreAbs (w : Word) : Statement (.sreAbs w) := ⟨rfl, rfl, rfl⟩
theorem bvcRel (d : Byte) : Statement (.bvcRel d) := ⟨rfl, rfl, rfl⟩
theorem eorIndy (a : Byte) : Statement (.eorIndy a) := ⟨rfl, rfl, rfl⟩
theorem jam52 : Statement .jam52 := ⟨rfl, rfl, rfl⟩
theorem sreIndy (a : Byte) : Statement (.sreIndy a) := ⟨rfl, rfl, rfl⟩
theorem nopZpx54 (a : Byte) : Statement (.nopZpx54 a) := ⟨rfl, rfl, rfl⟩
theorem eorZpx (a : Byte) : Statement (.eorZpx a) := ⟨rfl, rfl, rfl⟩
theorem lsrZpx (a : Byte) : Statement (.lsrZpx a) := ⟨rfl, rfl, rfl⟩
theorem sreZpx (a : Byte) : Statement (.sreZpx a) := ⟨rfl, rfl, rfl⟩
theorem cli : Statement .cli := ⟨rfl, rfl, rfl⟩
theorem eorAbsy (w : Word) : Statement (.eorAbsy w) := ⟨rfl, rfl, rfl⟩
theorem nop5A : Statement .nop5A := ⟨rfl, rfl, rfl⟩
theorem sreAbsy (w : Word) : Statement (.sreAbsy w) := ⟨rfl, rfl, rfl⟩
theorem nopAbsx5C (w : Word) : Statement (.nopAbsx5C w) := ⟨rfl, rfl, rfl⟩
theorem eorAbsx (w : Word) : Statement (.eorAbsx w) := ⟨rfl, rfl, rfl⟩
theorem lsrAbsx (w : Word) : Statement (.lsrAbsx w) := ⟨rfl, rfl, rfl⟩
theorem sreAbsx (w : Word) : Statement (.sreAbsx w) := ⟨rfl, rfl, rfl⟩
theorem rts : Statement .rts := ⟨rfl, rfl, rfl⟩
theorem adcIndx (a : Byte) : Statement (.adcIndx a) := ⟨rfl, rfl, rfl⟩
theorem jam62 : Statement .jam62 := ⟨rfl, rfl, rfl⟩
theorem rraIndx (a : Byte) : Statement (.rraIndx a) := ⟨rfl, rfl, rfl⟩
theorem nopZp64 (a : Byte) : Statement (.nopZp64 a) := ⟨rfl, rfl, rfl⟩
theorem adcZp (a : Byte) : Statement (.adcZp a) := ⟨rfl, rfl, rfl⟩
theorem rorZp (a : Byte) : Statement (.rorZp a) := ⟨rfl, rfl, rfl⟩
theorem rraZp (a : Byte) : Statement (.rraZp a) := ⟨rfl, rfl, rfl⟩
theorem pla : Statement .pla := ⟨rfl, rfl, rfl⟩
theorem adcImm (d : Byte) : Statement (.adcImm d) := ⟨rfl, rfl, rfl⟩
theorem rorAcc : Statement .rorAcc := ⟨rfl, rfl, rfl⟩
theorem arrImm (d : Byte) : Statement (.arrImm d) := ⟨rfl, rfl, rfl⟩
theorem jmpInd (w : Word) : Statement (.jmpInd w) := ⟨rfl, rfl, rfl⟩
theorem adcAbs (w : Word) : Statement (.adcAbs w) := ⟨rfl, rfl, rfl⟩
theorem rorAbs (w : Word) : Statement (.rorAbs w) := ⟨rfl, rfl, rfl⟩
theorem rraAbs (w : Word) : Statement (.rraAbs w) := ⟨rfl, rfl, rfl⟩
theorem bvsRel (d : Byte) : Statement (.bvsRel d) := ⟨rfl, rfl, rfl⟩
theorem adcIndy (a : Byte) : Statement (.adcIndy a) := ⟨rfl, rfl, rfl⟩
theorem jam72 : Statement .jam72 := ⟨rfl, rfl, rfl⟩
theorem rraIndy (a : Byte) : Statement (.rraIndy a) := ⟨rfl, rfl, rfl⟩
theorem nopZpx74 (a : Byte) : Statement (.nopZpx74 a) := ⟨rfl, rfl, rfl⟩
theorem adcZpx (a : Byte) : Statement (.adcZpx a) := ⟨rfl, rfl, rfl⟩
theorem rorZpx (a : Byte) : Statement (.rorZpx a) := ⟨rfl, rfl, rfl⟩
theorem rraZpx (a : Byte) : Statement (.rraZpx a) := ⟨rfl, rfl, rfl⟩
theorem sei : Statement .sei := ⟨rfl, rfl, rfl⟩
theorem adcAbsy (w : Word) : Statement (.adcAbsy w) := ⟨rfl, rfl, rfl⟩
theorem nop7A : Statement .nop7A := ⟨rfl, rfl, rfl⟩
theorem rraAbsy (w : Word) : Statement (.rraAbsy w) := ⟨rfl, rfl, rfl⟩
theorem nopAbsx7C (w : Word) : Statement (.nopAbsx7C w) := ⟨rfl, rfl, rfl⟩
theorem adcAbsx (w : Word) : Statement (.adcAbsx w) := ⟨rfl, rfl, rfl⟩
theorem rorAbsx (w : Word) : Statement (.rorAbsx w) := ⟨rfl, rfl, rfl⟩
theorem rraAbsx (w : Word) : Statement (.rraAbsx w) := ⟨rfl, rfl, rfl⟩
theorem nopImm80 (d : Byte) : Statement (.nopImm80 d) := ⟨rfl, rfl, rfl⟩
theorem staIndx (a : Byte) : Statement (.staIndx a) := ⟨rfl, rfl, rfl⟩
theorem nopImm82 (d : Byte) : Statement (.nopImm82 d) := ⟨rfl, rfl, rfl⟩
theorem saxIndx (a : Byte) : Statement (.saxIndx a) := ⟨rfl, rfl, rfl⟩
theorem styZp (a : Byte) : Statement (.styZp a) := ⟨rfl, rfl, rfl⟩
theorem staZp (a : Byte) : Statement (.staZp a) := ⟨rfl, rfl, rfl⟩
theorem stxZp (a : Byte) : Statement (.stxZp a) := ⟨rfl, rfl, rfl⟩
theorem saxZp (a : Byte) : Statement (.saxZp a) := ⟨rfl, rfl, rfl⟩
theorem dey : Statement .dey := ⟨rfl, rfl, rfl⟩
theorem nopImm89 (d : Byte) : Statement (.nopImm89 d) := ⟨rfl, rfl, rfl⟩
theorem txa : Statement .txa := ⟨rfl, rfl, rfl⟩
theorem xaaImm (d : Byte) : Statement (.xaaImm d) := ⟨rfl, rfl, rfl⟩
theorem styAbs (w : Word) : Statement (.styAbs w) := ⟨rfl, rfl, rfl⟩
theorem staAbs (w : Word) : Statement (.staAbs w) := ⟨rfl, rfl, rfl⟩
theorem stxAbs (w : Word) : Statement (.stxAbs w) := ⟨rfl, rfl, rfl⟩
theorem saxAbs (w : Word) : Statement (.saxAbs w) := ⟨rfl, rfl, rfl⟩
theorem bccRel (d : Byte) : Statement (.bccRel d) := ⟨rfl, rfl, rfl⟩
theorem staIndy (a : Byte) : Statement (.staIndy a) := ⟨rfl, rfl, rfl⟩
theorem jam92 : Statement .jam92 := ⟨rfl, rfl, rfl⟩
theorem shaIndy (a : Byte) : Statement (.shaIndy a) := ⟨rfl, rfl, rfl⟩
theorem styZpx (a : Byte) : Statement (.styZpx a) := ⟨rfl, rfl, rfl⟩
theorem staZpx (a : Byte) : Statement (.staZpx a) := ⟨rfl, rfl, rfl⟩
theorem stxZpy (a : Byte) : Statement (.stxZpy a) := ⟨rfl, rfl, rfl⟩
theorem saxZpy (a : Byte) : Statement (.saxZpy a) := ⟨rfl, rfl, rfl⟩
theorem tya : Statement .tya := ⟨rfl, rfl, rfl⟩
theorem staAbsy (w : Word) : Statement (.staAbsy w) := ⟨rfl, rfl, rfl⟩
theorem txs : Statement .txs := ⟨rfl, rfl, rfl⟩
theorem tasAbsy (w : Word) : Statement (.tasAbsy w) := ⟨rfl, rfl, rfl⟩
theorem shyAbsx (w : Word) : Statement (.shyAbsx w) := ⟨rfl, rfl, rfl⟩
theorem staAbsx (w : Word) : Statement (.staAbsx w) := ⟨rfl, rfl, rfl⟩
theorem shxAbsy (w : Word) : Statement (.shxAbsy w) := ⟨rfl, rfl, rfl⟩
theorem shaAbsy (w : Word) : Statement (.shaAbsy w) := ⟨rfl, rfl, rfl⟩
theorem ldyImm (d : Byte) : Statement (.ldyImm d) := ⟨rfl, rfl, rfl⟩
theorem ldaIndx (a : Byte) : Statement (.ldaIndx a) := ⟨rfl, rfl, rfl⟩
theorem ldxImm (d : Byte) : Statement (.ldxImm d) := ⟨rfl, rfl, rfl⟩
theorem laxIndx (a : Byte) : Statement (.laxIndx a) := ⟨rfl, rfl, rfl⟩
theorem ldyZp (a : Byte) : Statement (.ldyZp a) := ⟨rfl, rfl, rfl⟩
theorem ldaZp (a : Byte) : Statement (.ldaZp a) := ⟨rfl, rfl, rfl⟩
theorem ldxZp (a : Byte) : Statement (.ldxZp a) := ⟨rfl, rfl, rfl⟩
theorem laxZp (a : Byte) : Statement (.laxZp a) := ⟨rfl, rfl, rfl⟩
theorem tay : Statement .tay := ⟨rfl, rfl, rfl⟩
theorem ldaImm (d : Byte) : Statement (.ldaImm d) := ⟨rfl, rfl, rfl⟩
theorem tax : Statement .tax := ⟨rfl, rfl, rfl⟩
theorem lxaImm (d : Byte) : Statement (.lxaImm d) := ⟨rfl, rfl, rfl⟩
theorem ldyAbs (w : Word) : Statement (.ldyAbs w) := ⟨rfl, rfl, rfl⟩
theorem ldaAbs (w : Word) : Statement (.ldaAbs w) := ⟨rfl, rfl, rfl⟩
theorem ldxAbs (w : Word) : Statement (.ldxAbs w) := ⟨rfl, rfl, rfl⟩
theorem laxAbs (w : Word) : Statement (.laxAbs w) := ⟨rfl, rfl, rfl⟩
theorem bcsRel (d : Byte) : Statement (.bcsRel d) := ⟨rfl, rfl, rfl⟩
theorem ldaIndy (a : Byte) : Statement (.ldaIndy a) := ⟨rfl, rfl, rfl⟩
theorem jamB2 : Statement .jamB2 := ⟨rfl, rfl, rfl⟩
theorem laxIndy (a : Byte) : Statement (.laxIndy a) := ⟨rfl, rfl, rfl⟩
theorem ldyZpx (a : Byte) : Statement (.ldyZpx a) := ⟨rfl, rfl, rfl⟩
theorem ldaZpx (a : Byte) : Statement (.ldaZpx a) := ⟨rfl, rfl, rfl⟩
theorem ldxZpy (a : Byte) : Statement (.ldxZpy a) := ⟨rfl, rfl, rfl⟩
theorem laxZpy (a : Byte) : Statement (.laxZpy a) := ⟨rfl, rfl, rfl⟩
theorem clv : Statement .clv := ⟨rfl, rfl, rfl⟩
theorem ldaAbsy (w : Word) : Statement (.ldaAbsy w) := ⟨rfl, rfl, rfl⟩
theorem tsx : Statement .tsx := ⟨rfl, rfl, rfl⟩
theorem lasAbsy (w : Word) : Statement (.lasAbsy w) := ⟨rfl, rfl, rfl⟩
theorem ldyAbsx (w : Word) : Statement (.ldyAbsx w) := ⟨rfl, rfl, rfl⟩
theorem ldaAbsx (w : Word) : Statement (.ldaAbsx w) := ⟨rfl, rfl, rfl⟩
theorem ldxAbsy (w : Word) : Statement (.ldxAbsy w) := ⟨rfl, rfl, rfl⟩
theorem laxAbsy (w : Word) : Statement (.laxAbsy w) := ⟨rfl, rfl, rfl⟩
theorem cpyImm (d : Byte) : Statement (.cpyImm d) := ⟨rfl, rfl, rfl⟩
theorem cmpIndx (a : Byte) : Statement (.cmpIndx a) := ⟨rfl, rfl, rfl⟩
theorem nopImmC2 (d : Byte) : Statement (.nopImmC2 d) := ⟨rfl, rfl, rfl⟩
theorem dcpIndx (a : Byte) : Statement (.dcpIndx a) := ⟨rfl, rfl, rfl⟩
theorem cpyZp (a : Byte) : Statement (.cpyZp a) := ⟨rfl, rfl, rfl⟩
theorem cmpZp (a : Byte) : Statement (.cmpZp a) := ⟨rfl, rfl, rfl⟩
theorem decZp (a : Byte) : Statement (.decZp a) := ⟨rfl, rfl, rfl⟩
theorem dcpZp (a : Byte) : Statement (.dcpZp a) := ⟨rfl, rfl, rfl⟩
theorem iny : Statement .iny := ⟨rfl, rfl, rfl⟩
theorem cmpImm (d : Byte) : Statement (.cmpImm d) := ⟨rfl, rfl, rfl⟩
theorem dex : Statement .dex := ⟨rfl, rfl, rfl⟩
theorem sbxImm (d : Byte) : Statement (.sbxImm d) := ⟨rfl, rfl, rfl⟩
theorem cpyAbs (w : Word) : Statement (.cpyAbs w) := ⟨rfl, rfl, rfl⟩
theorem cmpAbs (w : Word) : Statement (.cmpAbs w) := ⟨rfl, rfl, rfl⟩
theorem decAbs (w : Word) : Statement (.decAbs w) := ⟨rfl, rfl, rfl⟩
theorem dcpAbs (w : Word) : Statement (.dcpAbs w) := ⟨rfl, rfl, rfl⟩
theorem bneRel (d : Byte) : Statement (.bneRel d) := ⟨rfl, rfl, rfl⟩
theorem cmpIndy (a : Byte) : Statement (.cmpIndy a) := ⟨rfl, rfl, rfl⟩
theorem jamD2 : Statement .jamD2 := ⟨rfl, rfl, rfl⟩
theorem dcpIndy (a : Byte) : Statement (.dcpIndy a) := ⟨rfl, rfl, rfl⟩
theorem nopZpxD4 (a : Byte) : Statement (.nopZpxD4 a) := ⟨rfl, rfl, rfl⟩
theorem cmpZpx (a : Byte) : Statement (.cmpZpx a) := ⟨rfl, rfl, rfl⟩
theorem decZpx (a : Byte) : Statement (.decZpx a) := ⟨rfl, rfl, rfl⟩
theorem dcpZpx (a : Byte) : Statement (.dcpZpx a) := ⟨rfl, rfl, rfl⟩
theorem cld : Statement .cld := ⟨rfl, rfl, rfl⟩
theorem cmpAbsy (w : Word) : Statement (.cmpAbsy w) := ⟨rfl, rfl, rfl⟩
theorem nopDA : Statement .nopDA := ⟨rfl, rfl, rfl⟩
theorem dcpAbsy (w : Word) : Statement (.dcpAbsy w) := ⟨rfl, rfl, rfl⟩
theorem nopAbsxDC (w : Word) : Statement (.nopAbsxDC w) := ⟨rfl, rfl, rfl⟩
theorem cmpAbsx (w : Word) : Statement (.cmpAbsx w) := ⟨rfl, rfl, rfl⟩
theorem decAbsx (w : Word) : Statement (.decAbsx w) := ⟨rfl, rfl, rfl⟩
theorem dcpAbsx (w : Word) : Statement (.dcpAbsx w) := ⟨rfl, rfl, rfl⟩
theorem cpxImm (d : Byte) : Statement (.cpxImm d) := ⟨rfl, rfl, rfl⟩
theorem sbcIndx (a : Byte) : Statement (.sbcIndx a) := ⟨rfl, rfl, rfl⟩
theorem nopImmE2 (d : Byte) : Statement (.nopImmE2 d) := ⟨rfl, rfl, rfl⟩
theorem isbIndx (a : Byte) : Statement (.isbIndx a) := ⟨rfl, rfl, rfl⟩
theorem cpxZp (a : Byte) : Statement (.cpxZp a) := ⟨rfl, rfl, rfl⟩
theorem sbcZp (a : Byte) : Statement (.sbcZp a) := ⟨rfl, rfl, rfl⟩
theorem incZp (a : Byte) : Statement (.incZp a) := ⟨rfl, rfl, rfl⟩
theorem isbZp (a : Byte) : Statement (.isbZp a) := ⟨rfl, rfl, rfl⟩
theorem inx : Statement .inx := ⟨rfl, rfl, rfl⟩
theorem sbcImm (d : Byte) : Statement (.sbcImm d) := ⟨rfl, rfl, rfl⟩
theorem nop : Statement .nop := ⟨rfl, rfl, rfl⟩
theorem usbcImm (d : Byte) : Statement (.usbcImm d) := ⟨rfl, rfl, rfl⟩
theorem cpxAbs (w : Word) : Statement (.cpxAbs w) := ⟨rfl, rfl, rfl⟩
theorem sbcAbs (w : Word) : Statement (.sbcAbs w) := ⟨rfl, rfl, rfl⟩
theorem incAbs (w : Word) : Statement (.incAbs w) := ⟨rfl, rfl, rfl⟩
theorem isbAbs (w : Word) : Statement (.isbAbs w) := ⟨rfl, rfl, rfl⟩
theorem beqRel (d : Byte) : Statement (.beqRel d) := ⟨rfl, rfl, rfl⟩
theorem sbcIndy (a : Byte) : Statement (.sbcIndy a) := ⟨rfl, rfl, rfl⟩
theorem jamF2 : Statement .jamF2 := ⟨rfl, rfl, rfl⟩
theorem isbIndy (a : Byte) : Statement (.isbIndy a) := ⟨rfl, rfl, rfl⟩
theorem nopZpxF4 (a : Byte) : Statement (.nopZpxF4 a) := ⟨rfl, rfl, rfl⟩
theorem sbcZpx (a : Byte) : Statement (.sbcZpx a) := ⟨rfl, rfl, rfl⟩
theorem incZpx (a : Byte) : Statement (.incZpx a) := ⟨rfl, rfl, rfl⟩
theorem isbZpx (a : Byte) : Statement (.isbZpx a) := ⟨rfl, rfl, rfl⟩
theorem sed : Statement .sed := ⟨rfl, rfl, rfl⟩
theorem sbcAbsy (w : Word) : Statement (.sbcAbsy w) := ⟨rfl, rfl, rfl⟩
theorem nopFA : Statement .nopFA := ⟨rfl, rfl, rfl⟩
theorem isbAbsy (w : Word) : Statement (.isbAbsy w) := ⟨rfl, rfl, rfl⟩
theorem nopAbsxFC (w : Word) : Statement (.nopAbsxFC w) := ⟨rfl, rfl, rfl⟩
theorem sbcAbsx (w : Word) : Statement (.sbcAbsx w) := ⟨rfl, rfl, rfl⟩
theorem incAbsx (w : Word) : Statement (.incAbsx w) := ⟨rfl, rfl, rfl⟩
theorem isbAbsx (w : Word) : Statement (.isbAbsx w) := ⟨rfl, rfl, rfl⟩

end Sys2Proof.Laws.Shape
end

