-- ==== Sys2Proof/Tests/Slice0.lean ====
section
/-! SUPPORT. The model's own tests: the well-formedness checks, the decoding of all 256 opcode bytes against the opcode map
of R94 and the layouts of R91, one vector or two of 95_test_vectors.md for each instruction rule (test_t<n> is vector
T<n> of that file, its expected state taken from there), and for each statement with hypotheses a state and operands
that meet them (witness_<statement>). -/

namespace Sys2Proof.Tests

open Sys2Proof.Machine Sys2Proof.Claims

/-! ### Well-formedness refuses an ill-formed table entry (R91, R93, R104) -/

theorem test_wf_ok : Entry.wf ⟨0xA9, .lda, .official, .immediate, 2, 2⟩ = true := by decide
theorem test_wf_length_zero : Entry.wf ⟨0xEA, .nop, .official, .implied, 0, 2⟩ = false := by decide
theorem test_wf_length_four : Entry.wf ⟨0x20, .jsr, .official, .implied, 4, 6⟩ = false := by decide
theorem test_wf_short_absolute : Entry.wf ⟨0xAD, .lda, .official, .absolute, 2, 4⟩ = false := by decide
theorem test_wf_long_zero_page : Entry.wf ⟨0xA5, .lda, .official, .zeroPage, 3, 3⟩ = false := by decide
theorem test_wf_no_cost : Entry.wf ⟨0xEA, .nop, .official, .implied, 1, 0⟩ = false := by decide
theorem test_wf_long_fallback : Entry.wf ⟨0x02, .jam, .unmapped, .implied, 2, 1⟩ = false := by decide
theorem test_wf_slow_fallback : Entry.wf ⟨0x02, .jam, .unmapped, .implied, 1, 2⟩ = false := by decide

/-! ### Decoding: one word for each opcode byte, operand bytes written out by the layouts of R91 -/

/-- What the decoder reads from a word of that many bits. -/
def decodeWord (w : Nat × Nat) : Option Instr := decodeTableWord w.1 w.2

theorem test_decode_0x : [(8, 0x00), (16, 0x9401), (8, 0x02), (16, 0xB603), (16, 0xC704), (16, 0xD805),
     (16, 0xE906), (16, 0xFA07), (8, 0x08), (16, 0x1C09), (8, 0x0A), (16, 0x3E0B),
     (24, 0xED4F0C), (24, 0x24600D), (24, 0x5B710E), (24, 0x92820F)].map decodeWord =
    [.brk, .oraIndx 0x94, .jam02, .sloIndx 0xB6, .nopZp04 0xC7, .oraZp 0xD8,
     .aslZp 0xE9, .sloZp 0xFA, .php, .oraImm 0x1C, .aslAcc, .ancImm0B 0x3E,
     .nopAbs 0xED4F, .oraAbs 0x2460, .aslAbs 0x5B71, .sloAbs 0x9282].map some := by decide

theorem test_decode_1x : [(16, 0xA410), (16, 0xB511), (8, 0x12), (16, 0xD713), (16, 0xE814), (16, 0xF915),
     (16, 0x0A16), (16, 0x1B17), (8, 0x18), (24, 0x533D19), (8, 0x1A), (24, 0xC15F1B),
     (24, 0xF8701C), (24, 0x2F811D), (24, 0x66921E), (24, 0x9DA31F)].map decodeWord =
    [.bplRel 0xA4, .oraIndy 0xB5, .jam12, .sloIndy 0xD7, .nopZpx14 0xE8, .oraZpx 0xF9,
     .aslZpx 0x0A, .sloZpx 0x1B, .clc, .oraAbsy 0x533D, .nop1A, .sloAbsy 0xC15F,
     .nopAbsx1C 0xF870, .oraAbsx 0x2F81, .aslAbsx 0x6692, .sloAbsx 0x9DA3].map some := by decide

theorem test_decode_2x : [(24, 0x6FC520), (16, 0xD621), (8, 0x22), (16, 0xF823), (16, 0x0924), (16, 0x1A25),
     (16, 0x2B26), (16, 0x3C27), (8, 0x28), (16, 0x5E29), (8, 0x2A), (16, 0x802B),
     (24, 0x03912C), (24, 0x3AA22D), (24, 0x71B32E), (24, 0xA8C42F)].map decodeWord =
    [.jsrAbs 0x6FC5, .andIndx 0xD6, .jam22, .rlaIndx 0xF8, .bitZp 0x09, .andZp 0x1A,
     .rolZp 0x2B, .rlaZp 0x3C, .plp, .andImm 0x5E, .rolAcc, .ancImm2B 0x80,
     .bitAbs 0x0391, .andAbs 0x3AA2, .rolAbs 0x71B3, .rlaAbs 0xA8C4].map some := by decide

theorem test_decode_3x : [(16, 0xE630), (16, 0xF731), (8, 0x32), (16, 0x1933), (16, 0x2A34), (16, 0x3B35),
     (16, 0x4C36), (16, 0x5D37), (8, 0x38), (24, 0x697F39), (8, 0x3A), (24, 0xD7A13B),
     (24, 0x0EB23C), (24, 0x45C33D), (24, 0x7CD43E), (24, 0xB3E53F)].map decodeWord =
    [.bmiRel 0xE6, .andIndy 0xF7, .jam32, .rlaIndy 0x19, .nopZpx34 0x2A, .andZpx 0x3B,
     .rolZpx 0x4C, .rlaZpx 0x5D, .sec, .andAbsy 0x697F, .nop3A, .rlaAbsy 0xD7A1,
     .nopAbsx3C 0x0EB2, .andAbsx 0x45C3, .rolAbsx 0x7CD4, .rlaAbsx 0xB3E5].map some := by decide

theorem test_decode_4x : [(8, 0x40), (16, 0x1841), (8, 0x42), (16, 0x3A43), (16, 0x4B44), (16, 0x5C45),
     (16, 0x6D46), (16, 0x7E47), (8, 0x48), (16, 0xA049), (8, 0x4A), (16, 0xC24B),
     (24, 0x19D34C), (24, 0x50E44D), (24, 0x87F54E), (24, 0xBE064F)].map decodeWord =
    [.rti, .eorIndx 0x18, .jam42, .sreIndx 0x3A, .nopZp44 0x4B, .eorZp 0x5C,
     .lsrZp 0x6D, .sreZp 0x7E, .pha, .eorImm 0xA0, .lsrAcc, .alrImm 0xC2,
     .jmpAbs 0x19D3, .eorAbs 0x50E4, .lsrAbs 0x87F5, .sreAbs 0xBE06].map some := by decide

theorem test_decode_5x : [(16, 0x2850), (16, 0x3951), (8, 0x52), (16, 0x5B53), (16, 0x6C54), (16, 0x7D55),
     (16, 0x8E56), (16, 0x9F57), (8, 0x58), (24, 0x7FC159), (8, 0x5A), (24, 0xEDE35B),
     (24, 0x24F45C), (24, 0x5B055D), (24, 0x92165E), (24, 0xC9275F)].map decodeWord =
    [.bvcRel 0x28, .eorIndy 0x39, .jam52, .sreIndy 0x5B, .nopZpx54 0x6C, .eorZpx 0x7D,
     .lsrZpx 0x8E, .sreZpx 0x9F, .cli, .eorAbsy 0x7FC1, .nop5A, .sreAbsy 0xEDE3,
     .nopAbsx5C 0x24F4, .eorAbsx 0x5B05, .lsrAbsx 0x9216, .sreAbsx 0xC927].map some := by decide

theorem test_decode_6x : [(8, 0x60), (16, 0x5A61), (8, 0x62), (16, 0x7C63), (16, 0x8D64), (16, 0x9E65),
     (16, 0xAF66), (16, 0xC067), (8, 0x68), (16, 0xE269), (8, 0x6A), (16, 0x046B),
     (24, 0x2F156C), (24, 0x66266D), (24, 0x9D376E), (24, 0xD4486F)].map decodeWord =
    [.rts, .adcIndx 0x5A, .jam62, .rraIndx 0x7C, .nopZp64 0x8D, .adcZp 0x9E,
     .rorZp 0xAF, .rraZp 0xC0, .pla, .adcImm 0xE2, .rorAcc, .arrImm 0x04,
     .jmpInd 0x2F15, .adcAbs 0x6626, .rorAbs 0x9D37, .rraAbs 0xD448].map some := by decide

theorem test_decode_7x : [(16, 0x6A70), (16, 0x7B71), (8, 0x72), (16, 0x9D73), (16, 0xAE74), (16, 0xBF75),
     (16, 0xD076), (16, 0xE177), (8, 0x78), (24, 0x950379), (8, 0x7A), (24, 0x03257B),
     (24, 0x3A367C), (24, 0x71477D), (24, 0xA8587E), (24, 0xDF697F)].map decodeWord =
    [.bvsRel 0x6A, .adcIndy 0x7B, .jam72, .rraIndy 0x9D, .nopZpx74 0xAE, .adcZpx 0xBF,
     .rorZpx 0xD0, .rraZpx 0xE1, .sei, .adcAbsy 0x9503, .nop7A, .rraAbsy 0x0325,
     .nopAbsx7C 0x3A36, .adcAbsx 0x7147, .rorAbsx 0xA858, .rraAbsx 0xDF69].map some := by decide

theorem test_decode_8x : [(16, 0x8B80), (16, 0x9C81), (16, 0xAD82), (16, 0xBE83), (16, 0xCF84), (16, 0xE085),
     (16, 0xF186), (16, 0x0287), (8, 0x88), (16, 0x2489), (8, 0x8A), (16, 0x468B),
     (24, 0x45578C), (24, 0x7C688D), (24, 0xB3798E), (24, 0xEA8A8F)].map decodeWord =
    [.nopImm80 0x8B, .staIndx 0x9C, .nopImm82 0xAD, .saxIndx 0xBE, .styZp 0xCF, .staZp 0xE0,
     .stxZp 0xF1, .saxZp 0x02, .dey, .nopImm89 0x24, .txa, .xaaImm 0x46,
     .styAbs 0x4557, .staAbs 0x7C68, .stxAbs 0xB379, .saxAbs 0xEA8A].map some := by decide

theorem test_decode_9x : [(16, 0xAC90), (16, 0xBD91), (8, 0x92), (16, 0xDF93), (16, 0xF094), (16, 0x0195),
     (16, 0x1296), (16, 0x2397), (8, 0x98), (24, 0xAB4599), (8, 0x9A), (24, 0x19679B),
     (24, 0x50789C), (24, 0x87899D), (24, 0xBE9A9E), (24, 0xF5AB9F)].map decodeWord =
    [.bccRel 0xAC, .staIndy 0xBD, .jam92, .shaIndy 0xDF, .styZpx 0xF0, .staZpx 0x01,
     .stxZpy 0x12, .saxZpy 0x23, .tya, .staAbsy 0xAB45, .txs, .tasAbsy 0x1967,
     .shyAbsx 0x5078, .staAbsx 0x8789, .shxAbsy 0xBE9A, .shaAbsy 0xF5AB].map some := by decide

theorem test_decode_Ax : [(16, 0xCDA0), (16, 0xDEA1), (16, 0xEFA2), (16, 0x00A3), (16, 0x11A4), (16, 0x22A5),
     (16, 0x33A6), (16, 0x44A7), (8, 0xA8), (16, 0x66A9), (8, 0xAA), (16, 0x88AB),
     (24, 0x5B99AC), (24, 0x92AAAD), (24, 0xC9BBAE), (24, 0x00CCAF)].map decodeWord =
    [.ldyImm 0xCD, .ldaIndx 0xDE, .ldxImm 0xEF, .laxIndx 0x00, .ldyZp 0x11, .ldaZp 0x22,
     .ldxZp 0x33, .laxZp 0x44, .tay, .ldaImm 0x66, .tax, .lxaImm 0x88,
     .ldyAbs 0x5B99, .ldaAbs 0x92AA, .ldxAbs 0xC9BB, .laxAbs 0x00CC].map some := by decide

theorem test_decode_Bx : [(16, 0xEEB0), (16, 0xFFB1), (8, 0xB2), (16, 0x21B3), (16, 0x32B4), (16, 0x43B5),
     (16, 0x54B6), (16, 0x65B7), (8, 0xB8), (24, 0xC187B9), (8, 0xBA), (24, 0x2FA9BB),
     (24, 0x66BABC), (24, 0x9DCBBD), (24, 0xD4DCBE), (24, 0x0BEDBF)].map decodeWord =
    [.bcsRel 0xEE, .ldaIndy 0xFF, .jamB2, .laxIndy 0x21, .ldyZpx 0x32, .ldaZpx 0x43,
     .ldxZpy 0x54, .laxZpy 0x65, .clv, .ldaAbsy 0xC187, .tsx, .lasAbsy 0x2FA9,
     .ldyAbsx 0x66BA, .ldaAbsx 0x9DCB, .ldxAbsy 0xD4DC, .laxAbsy 0x0BED].map some := by decide

theorem test_decode_Cx : [(16, 0x0FC0), (16, 0x20C1), (16, 0x31C2), (16, 0x42C3), (16, 0x53C4), (16, 0x64C5),
     (16, 0x75C6), (16, 0x86C7), (8, 0xC8), (16, 0xA8C9), (8, 0xCA), (16, 0xCACB),
     (24, 0x71DBCC), (24, 0xA8ECCD), (24, 0xDFFDCE), (24, 0x160ECF)].map decodeWord =
    [.cpyImm 0x0F, .cmpIndx 0x20, .nopImmC2 0x31, .dcpIndx 0x42, .cpyZp 0x53, .cmpZp 0x64,
     .decZp 0x75, .dcpZp 0x86, .iny, .cmpImm 0xA8, .dex, .sbxImm 0xCA,
     .cpyAbs 0x71DB, .cmpAbs 0xA8EC, .decAbs 0xDFFD, .dcpAbs 0x160E].map some := by decide

theorem test_decode_Dx : [(16, 0x30D0), (16, 0x41D1), (8, 0xD2), (16, 0x63D3), (16, 0x74D4), (16, 0x85D5),
     (16, 0x96D6), (16, 0xA7D7), (8, 0xD8), (24, 0xD7C9D9), (8, 0xDA), (24, 0x45EBDB),
     (24, 0x7CFCDC), (24, 0xB30DDD), (24, 0xEA1EDE), (24, 0x212FDF)].map decodeWord =
    [.bneRel 0x30, .cmpIndy 0x41, .jamD2, .dcpIndy 0x63, .nopZpxD4 0x74, .cmpZpx 0x85,
     .decZpx 0x96, .dcpZpx 0xA7, .cld, .cmpAbsy 0xD7C9, .nopDA, .dcpAbsy 0x45EB,
     .nopAbsxDC 0x7CFC, .cmpAbsx 0xB30D, .decAbsx 0xEA1E, .dcpAbsx 0x212F].map some := by decide

theorem test_decode_Ex : [(16, 0x51E0), (16, 0x62E1), (16, 0x73E2), (16, 0x84E3), (16, 0x95E4), (16, 0xA6E5),
     (16, 0xB7E6), (16, 0xC8E7), (8, 0xE8), (16, 0xEAE9), (8, 0xEA), (16, 0x0CEB),
     (24, 0x871DEC), (24, 0xBE2EED), (24, 0xF53FEE), (24, 0x2C50EF)].map decodeWord =
    [.cpxImm 0x51, .sbcIndx 0x62, .nopImmE2 0x73, .isbIndx 0x84, .cpxZp 0x95, .sbcZp 0xA6,
     .incZp 0xB7, .isbZp 0xC8, .inx, .sbcImm 0xEA, .nop, .usbcImm 0x0C,
     .cpxAbs 0x871D, .sbcAbs 0xBE2E, .incAbs 0xF53F, .isbAbs 0x2C50].map some := by decide

theorem test_decode_Fx : [(16, 0x72F0), (16, 0x83F1), (8, 0xF2), (16, 0xA5F3), (16, 0xB6F4), (16, 0xC7F5),
     (16, 0xD8F6), (16, 0xE9F7), (8, 0xF8), (24, 0xED0BF9), (8, 0xFA), (24, 0x5B2DFB),
     (24, 0x923EFC), (24, 0xC94FFD), (24, 0x0060FE), (24, 0x3771FF)].map decodeWord =
    [.beqRel 0x72, .sbcIndy 0x83, .jamF2, .isbIndy 0xA5, .nopZpxF4 0xB6, .sbcZpx 0xC7,
     .incZpx 0xD8, .isbZpx 0xE9, .sed, .sbcAbsy 0xED0B, .nopFA, .isbAbsy 0x5B2D,
     .nopAbsxFC 0x923E, .sbcAbsx 0xC94F, .incAbsx 0x0060, .isbAbsx 0x3771].map some := by decide

/-- Three bytes are asked for and two are there. -/
theorem test_decode_short : decode [0x4C, 0x00] = .error (.operandMissing 0x4C) := rfl

theorem test_decode_empty : decode [] = .error .noOpcode := rfl

/-! ### Vectors of 95_test_vectors.md, one step each -/

/-- What a test looks at after a step. -/
structure Seen where
  a : Byte
  x : Byte
  y : Byte
  sp : Byte
  p : Byte
  pc : Word
  cost : Option Nat
  run : RunState
  writes : List (Word × Byte)
deriving DecidableEq, Repr

/-- A READY state with code at 0x0600 and PC there, some memory cells and the registers set. -/
def start (cfg : Config) (code : List Byte) (cells : List (Word × Byte)) (a x y sp p : Byte) : State :=
  let s := { State.powerOn cfg with a := a, x := x, y := y, sp := sp, p := p, pc := 0x0600 }
  cells.foldl (fun t c => t.placeBytes c.1 [c.2]) (s.placeBytes 0x0600 code)

/-- The write accesses of the last step. -/
def writesOf (s : State) : List (Word × Byte) :=
  (s.bus.filter fun e => e.kind == .write).map fun e => (e.address, e.byte)

/-- One step, and what is seen after it. -/
def seen (s : State) : Option Seen :=
  match step s with
  | .next t => some ⟨t.a, t.x, t.y, t.sp, t.p, t.pc, t.cost, t.run, writesOf t⟩
  | .fault _ => none
  | .refused _ => none

theorem test_t1_lda : seen (start {} [0xA9, 0x80] [] 0x00 0x00 0x00 0xFD 0x24) =
    some ⟨0x80, 0x00, 0x00, 0xFD, 0xA4, 0x0602, (some 2), .ready, []⟩ := by decide
theorem test_t2_ldx : seen (start {} [0xA2, 0x00] [] 0x00 0x55 0x00 0xFD 0x24) =
    some ⟨0x00, 0x00, 0x00, 0xFD, 0x26, 0x0602, (some 2), .ready, []⟩ := by decide
theorem test_t3_ldy : seen (start {} [0xA0, 0x7F] [] 0x00 0x00 0x00 0xFD 0x24) =
    some ⟨0x00, 0x00, 0x7F, 0xFD, 0x24, 0x0602, (some 2), .ready, []⟩ := by decide
theorem test_t4_lda : seen (start {} [0xB5, 0xF0] [(0x0010, 0x99)] 0x00 0x20 0x00 0xFD 0x24) =
    some ⟨0x99, 0x20, 0x00, 0xFD, 0xA4, 0x0602, (some 4), .ready, []⟩ := by decide
theorem test_t5_ldx : seen (start {} [0xB6, 0xFF] [(0x0001, 0x01)] 0x00 0x00 0x02 0xFD 0x24) =
    some ⟨0x00, 0x01, 0x02, 0xFD, 0x24, 0x0602, (some 4), .ready, []⟩ := by decide
theorem test_t6_lda : seen (start {} [0xBD, 0xFF, 0x12] [(0x1300, 0x42)] 0x00 0x01 0x00 0xFD 0x24) =
    some ⟨0x42, 0x01, 0x00, 0xFD, 0x24, 0x0603, (some 4), .ready, []⟩ := by decide
theorem test_t7_lda : seen (start {} [0xB9, 0xFF, 0xFF] [(0x0001, 0x33)] 0x00 0x00 0x02 0xFD 0x24) =
    some ⟨0x33, 0x00, 0x02, 0xFD, 0x24, 0x0603, (some 4), .ready, []⟩ := by decide
theorem test_t8_lda :
    seen (start {} [0xA1, 0xFE] [(0x0000, 0x12), (0x00FF, 0x34), (0x1234, 0xC0)] 0x00 0x01 0x00 0xFD 0x24) =
    some ⟨0xC0, 0x01, 0x00, 0xFD, 0xA4, 0x0602, (some 6), .ready, []⟩ := by decide
theorem test_t9_lda :
    seen (start {} [0xB1, 0xFF] [(0x0000, 0x20), (0x00FF, 0xF8), (0x2108, 0x07)] 0x00 0x00 0x10 0xFD 0x24) =
    some ⟨0x07, 0x00, 0x10, 0xFD, 0x24, 0x0602, (some 5), .ready, []⟩ := by decide
theorem test_t11_sta : seen (start {} [0x85, 0x10] [] 0x00 0x00 0x00 0xFD 0xA5) =
    some ⟨0x00, 0x00, 0x00, 0xFD, 0xA5, 0x0602, (some 3), .ready, [(0x0010, 0x00)]⟩ := by decide
theorem test_t12_stx : seen (start {} [0x96, 0xFF] [] 0x00 0xAB 0x03 0xFD 0x24) =
    some ⟨0x00, 0xAB, 0x03, 0xFD, 0x24, 0x0602, (some 4), .ready, [(0x0002, 0xAB)]⟩ := by decide
theorem test_t13_sty : seen (start {} [0x94, 0x80] [] 0x00 0x90 0x5A 0xFD 0x24) =
    some ⟨0x00, 0x90, 0x5A, 0xFD, 0x24, 0x0602, (some 4), .ready, [(0x0010, 0x5A)]⟩ := by decide
theorem test_t16_tax : seen (start {} [0xAA] [] 0x80 0x00 0x00 0xFD 0x24) =
    some ⟨0x80, 0x80, 0x00, 0xFD, 0xA4, 0x0601, (some 2), .ready, []⟩ := by decide
theorem test_t17_tay : seen (start {} [0xA8] [] 0x00 0x00 0x12 0xFD 0x24) =
    some ⟨0x00, 0x00, 0x00, 0xFD, 0x26, 0x0601, (some 2), .ready, []⟩ := by decide
theorem test_t18_txa : seen (start {} [0x8A] [] 0xFF 0x01 0x00 0xFD 0x24) =
    some ⟨0x01, 0x01, 0x00, 0xFD, 0x24, 0x0601, (some 2), .ready, []⟩ := by decide
theorem test_t19_tya : seen (start {} [0x98] [] 0x00 0x00 0xFE 0xFD 0x24) =
    some ⟨0xFE, 0x00, 0xFE, 0xFD, 0xA4, 0x0601, (some 2), .ready, []⟩ := by decide
theorem test_t20_tsx : seen (start {} [0xBA] [] 0x00 0x00 0x00 0x00 0x24) =
    some ⟨0x00, 0x00, 0x00, 0x00, 0x26, 0x0601, (some 2), .ready, []⟩ := by decide
theorem test_t21_txs : seen (start {} [0x9A] [] 0x00 0x00 0x00 0xFD 0x24) =
    some ⟨0x00, 0x00, 0x00, 0x00, 0x24, 0x0601, (some 2), .ready, []⟩ := by decide
theorem test_t30_adc : seen (start {} [0x69, 0x01] [] 0x7F 0x00 0x00 0xFD 0x24) =
    some ⟨0x80, 0x00, 0x00, 0xFD, 0xE4, 0x0602, (some 2), .ready, []⟩ := by decide
theorem test_t34_sbc : seen (start {} [0xE9, 0x03] [] 0x05 0x00 0x00 0xFD 0x25) =
    some ⟨0x02, 0x00, 0x00, 0xFD, 0x25, 0x0602, (some 2), .ready, []⟩ := by decide
theorem test_t38_sbc : seen (start ({ sbcForm := .complementMinusOne }) [0xE9, 0x00] [] 0x10 0x00 0x00 0xFD 0x25) =
    some ⟨0x0F, 0x00, 0x00, 0xFD, 0x25, 0x0602, (some 2), .ready, []⟩ := by decide
theorem test_t39_cmp : seen (start {} [0xC9, 0x06] [] 0x05 0x00 0x00 0xFD 0x24) =
    some ⟨0x05, 0x00, 0x00, 0xFD, 0xA4, 0x0602, (some 2), .ready, []⟩ := by decide
theorem test_t41_cpx : seen (start {} [0xE0, 0x00] [] 0x00 0x00 0x00 0xFD 0x24) =
    some ⟨0x00, 0x00, 0x00, 0xFD, 0x27, 0x0602, (some 2), .ready, []⟩ := by decide
theorem test_t42_cpy : seen (start {} [0xC0, 0x10] [] 0x00 0x00 0xFF 0xFD 0x24) =
    some ⟨0x00, 0x00, 0xFF, 0xFD, 0xA5, 0x0602, (some 2), .ready, []⟩ := by decide
theorem test_t43_inc : seen (start {} [0xE6, 0x10] [(0x0010, 0xFF)] 0x00 0x00 0x00 0xFD 0x24) =
    some ⟨0x00, 0x00, 0x00, 0xFD, 0x26, 0x0602, (some 5), .ready, [(0x0010, 0x00)]⟩ := by decide
theorem test_t44_dec : seen (start {} [0xC6, 0x10] [(0x0010, 0x00)] 0x00 0x00 0x00 0xFD 0x24) =
    some ⟨0x00, 0x00, 0x00, 0xFD, 0xA4, 0x0602, (some 5), .ready, [(0x0010, 0xFF)]⟩ := by decide
theorem test_t46_inx : seen (start {} [0xE8] [] 0x00 0xFF 0x00 0xFD 0x24) =
    some ⟨0x00, 0x00, 0x00, 0xFD, 0x26, 0x0601, (some 2), .ready, []⟩ := by decide
theorem test_t47_iny : seen (start {} [0xC8] [] 0x00 0x00 0x7F 0xFD 0x24) =
    some ⟨0x00, 0x00, 0x80, 0xFD, 0xA4, 0x0601, (some 2), .ready, []⟩ := by decide
theorem test_t48_dex : seen (start {} [0xCA] [] 0x00 0x00 0x00 0xFD 0x24) =
    some ⟨0x00, 0xFF, 0x00, 0xFD, 0xA4, 0x0601, (some 2), .ready, []⟩ := by decide
theorem test_t49_dey : seen (start {} [0x88] [] 0x00 0x00 0x01 0xFD 0x24) =
    some ⟨0x00, 0x00, 0x00, 0xFD, 0x26, 0x0601, (some 2), .ready, []⟩ := by decide
theorem test_t60_and : seen (start {} [0x29, 0x0F] [] 0xF0 0x00 0x00 0xFD 0x24) =
    some ⟨0x00, 0x00, 0x00, 0xFD, 0x26, 0x0602, (some 2), .ready, []⟩ := by decide
theorem test_t61_ora : seen (start {} [0x09, 0x80] [] 0x01 0x00 0x00 0xFD 0x24) =
    some ⟨0x81, 0x00, 0x00, 0xFD, 0xA4, 0x0602, (some 2), .ready, []⟩ := by decide
theorem test_t62_eor : seen (start {} [0x49, 0xFF] [] 0x0F 0x00 0x00 0xFD 0x24) =
    some ⟨0xF0, 0x00, 0x00, 0xFD, 0xA4, 0x0602, (some 2), .ready, []⟩ := by decide
theorem test_t63_bit : seen (start {} [0x24, 0x10] [(0x0010, 0xC0)] 0x01 0x00 0x00 0xFD 0x24) =
    some ⟨0x01, 0x00, 0x00, 0xFD, 0xE6, 0x0602, (some 3), .ready, []⟩ := by decide
theorem test_t65_asl : seen (start {} [0x0A] [] 0x80 0x00 0x00 0xFD 0x24) =
    some ⟨0x00, 0x00, 0x00, 0xFD, 0x27, 0x0601, (some 2), .ready, []⟩ := by decide
theorem test_t66_lsr : seen (start {} [0x4A] [] 0x01 0x00 0x00 0xFD 0x24) =
    some ⟨0x00, 0x00, 0x00, 0xFD, 0x27, 0x0601, (some 2), .ready, []⟩ := by decide
theorem test_t67_rol : seen (start {} [0x2A] [] 0x80 0x00 0x00 0xFD 0x25) =
    some ⟨0x01, 0x00, 0x00, 0xFD, 0x25, 0x0601, (some 2), .ready, []⟩ := by decide
theorem test_t68_ror : seen (start {} [0x6A] [] 0x01 0x00 0x00 0xFD 0x25) =
    some ⟨0x80, 0x00, 0x00, 0xFD, 0xA5, 0x0601, (some 2), .ready, []⟩ := by decide
theorem test_t80_pha : seen (start {} [0x48] [] 0x99 0x00 0x00 0xFD 0x24) =
    some ⟨0x99, 0x00, 0x00, 0xFC, 0x24, 0x0601, (some 3), .ready, [(0x01FD, 0x99)]⟩ := by decide
theorem test_t82_pla : seen (start {} [0x68] [(0x0100, 0x80)] 0x00 0x00 0x00 0xFF 0x24) =
    some ⟨0x80, 0x00, 0x00, 0x00, 0xA4, 0x0601, (some 4), .ready, []⟩ := by decide
theorem test_t83_php : seen (start {} [0x08] [] 0x00 0x00 0x00 0xFD 0x24) =
    some ⟨0x00, 0x00, 0x00, 0xFC, 0x24, 0x0601, (some 3), .ready, [(0x01FD, 0x34)]⟩ := by decide
theorem test_t84_plp : seen (start {} [0x28] [(0x01FD, 0x00)] 0x00 0x00 0x00 0xFC 0x24) =
    some ⟨0x00, 0x00, 0x00, 0xFD, 0x10, 0x0601, (some 4), .ready, []⟩ := by decide
theorem test_t85_plp : seen (start ({ plpPolicy := .asRti }) [0x28] [(0x01FD, 0x00)] 0x00 0x00 0x00 0xFC 0x24) =
    some ⟨0x00, 0x00, 0x00, 0xFD, 0x20, 0x0601, (some 4), .ready, []⟩ := by decide
theorem test_t86_clc : seen (start {} [0x18] [] 0x00 0x00 0x00 0xFD 0xFF) =
    some ⟨0x00, 0x00, 0x00, 0xFD, 0xFE, 0x0601, (some 2), .ready, []⟩ := by decide
theorem test_t87_sec : seen (start {} [0x38] [] 0x00 0x00 0x00 0xFD 0x24) =
    some ⟨0x00, 0x00, 0x00, 0xFD, 0x25, 0x0601, (some 2), .ready, []⟩ := by decide
theorem test_t88_cli : seen (start {} [0x58] [] 0x00 0x00 0x00 0xFD 0x24) =
    some ⟨0x00, 0x00, 0x00, 0xFD, 0x20, 0x0601, (some 2), .ready, []⟩ := by decide
theorem test_t89_sei : seen (start {} [0x78] [] 0x00 0x00 0x00 0xFD 0x20) =
    some ⟨0x00, 0x00, 0x00, 0xFD, 0x24, 0x0601, (some 2), .ready, []⟩ := by decide
theorem test_t90_cld : seen (start {} [0xD8] [] 0x00 0x00 0x00 0xFD 0x2C) =
    some ⟨0x00, 0x00, 0x00, 0xFD, 0x24, 0x0601, (some 2), .ready, []⟩ := by decide
theorem test_t91_sed : seen (start {} [0xF8] [] 0x00 0x00 0x00 0xFD 0x24) =
    some ⟨0x00, 0x00, 0x00, 0xFD, 0x2C, 0x0601, (some 2), .ready, []⟩ := by decide
theorem test_t92_clv : seen (start {} [0xB8] [] 0x00 0x00 0x00 0xFD 0x64) =
    some ⟨0x00, 0x00, 0x00, 0xFD, 0x24, 0x0601, (some 2), .ready, []⟩ := by decide
theorem test_t93_nop : seen (start {} [0xEA] [] 0x12 0x00 0x00 0xFD 0xE7) =
    some ⟨0x12, 0x00, 0x00, 0xFD, 0xE7, 0x0601, (some 2), .ready, []⟩ := by decide
theorem test_t100_jmp : seen (start {} [0x4C, 0x34, 0x12] [] 0x00 0x00 0x00 0xFD 0x24) =
    some ⟨0x00, 0x00, 0x00, 0xFD, 0x24, 0x1234, (some 3), .ready, []⟩ := by decide
theorem test_t102_jmp :
    seen (start {} [0x6C, 0xFF, 0x02] [(0x0200, 0x12), (0x02FF, 0x34), (0x0300, 0x56)] 0x00 0x00 0x00 0xFD 0x24) =
    some ⟨0x00, 0x00, 0x00, 0xFD, 0x24, 0x1234, (some 5), .ready, []⟩ := by decide
theorem test_t103_jsr : seen (start {} [0x20, 0x00, 0x07] [] 0x00 0x00 0x00 0xFD 0x24) =
    some ⟨0x00, 0x00, 0x00, 0xFB, 0x24, 0x0700, (some 6), .ready, [(0x01FD, 0x06), (0x01FC, 0x02)]⟩ := by decide
theorem test_t105_rts : seen (start {} [0x60] [(0x01FC, 0xFF), (0x01FD, 0x12)] 0x00 0x00 0x00 0xFB 0x24) =
    some ⟨0x00, 0x00, 0x00, 0xFD, 0x24, 0x1300, (some 6), .ready, []⟩ := by decide
theorem test_t106_rti :
    seen (start {} [0x40] [(0x01FB, 0xDF), (0x01FC, 0x00), (0x01FD, 0x07)] 0x00 0x00 0x00 0xFA 0x24) =
    some ⟨0x00, 0x00, 0x00, 0xFD, 0xEF, 0x0700, (some 6), .ready, []⟩ := by decide
theorem test_t107_bne : seen (start {} [0xD0, 0x05] [] 0x00 0x00 0x00 0xFD 0x24) =
    some ⟨0x00, 0x00, 0x00, 0xFD, 0x24, 0x0607, (some 2), .ready, []⟩ := by decide
theorem test_t109_beq : seen (start {} [0xF0, 0xFE] [] 0x00 0x00 0x00 0xFD 0x26) =
    some ⟨0x00, 0x00, 0x00, 0xFD, 0x26, 0x0600, (some 2), .ready, []⟩ := by decide
theorem test_t110_bpl : seen (start {} [0x10, 0x80] [] 0x00 0x00 0x00 0xFD 0x24) =
    some ⟨0x00, 0x00, 0x00, 0xFD, 0x24, 0x0582, (some 2), .ready, []⟩ := by decide
theorem test_t111_bmi : seen (start {} [0x30, 0x7F] [] 0x00 0x00 0x00 0xFD 0xA4) =
    some ⟨0x00, 0x00, 0x00, 0xFD, 0xA4, 0x0681, (some 2), .ready, []⟩ := by decide
theorem test_t112_bvc : seen (start {} [0x50, 0x10] [] 0x00 0x00 0x00 0xFD 0x64) =
    some ⟨0x00, 0x00, 0x00, 0xFD, 0x64, 0x0602, (some 2), .ready, []⟩ := by decide
theorem test_t113_bvs : seen (start {} [0x70, 0x10] [] 0x00 0x00 0x00 0xFD 0x64) =
    some ⟨0x00, 0x00, 0x00, 0xFD, 0x64, 0x0612, (some 2), .ready, []⟩ := by decide
theorem test_t114_bcc : seen (start {} [0x90, 0x10] [] 0x00 0x00 0x00 0xFD 0x24) =
    some ⟨0x00, 0x00, 0x00, 0xFD, 0x24, 0x0612, (some 2), .ready, []⟩ := by decide
theorem test_t115_bcs : seen (start {} [0xB0, 0x10] [] 0x00 0x00 0x00 0xFD 0x24) =
    some ⟨0x00, 0x00, 0x00, 0xFD, 0x24, 0x0602, (some 2), .ready, []⟩ := by decide
theorem test_t117_jmp : seen (start ({ advancePolicy := .compare }) [0x4C, 0x01, 0x06] [] 0x00 0x00 0x00 0xFD 0x24) =
    some ⟨0x00, 0x00, 0x00, 0xFD, 0x24, 0x0603, (some 3), .ready, []⟩ := by decide
theorem test_t119_bne : seen (start ({ advancePolicy := .compare }) [0xD0, 0xFF] [] 0x00 0x00 0x00 0xFD 0x24) =
    some ⟨0x00, 0x00, 0x00, 0xFD, 0x24, 0x0602, (some 2), .ready, []⟩ := by decide
theorem test_t130_brk : seen (start {} [0x00, 0xFF] [] 0x12 0x00 0x00 0xFD 0x24) =
    some ⟨0x12, 0x00, 0x00, 0xFD, 0x24, 0x0601, none, .halted, []⟩ := by decide
theorem test_t131_unmapped : seen (start {} [0x02] [] 0x00 0x00 0x00 0xFD 0x24) =
    some ⟨0x00, 0x00, 0x00, 0xFD, 0x24, 0x0601, (some 1), .ready, []⟩ := by decide
theorem test_t132_unmapped : seen (start ({ strictDecode := true }) [0x02] [] 0x00 0x00 0x00 0xFD 0x24) =
    some ⟨0x00, 0x00, 0x00, 0xFD, 0x24, 0x0601, none, .faulted, []⟩ := by decide
theorem test_t133_unmapped : seen (start ({ strictDecode := true }) [0xF2] [] 0x00 0x00 0x00 0xFD 0x24) =
    some ⟨0x00, 0x00, 0x00, 0xFD, 0x24, 0x0601, none, .faulted, []⟩ := by decide
theorem test_t134_brk : seen (start ({ strictDecode := true }) [0x00] [] 0x00 0x00 0x00 0xFD 0x24) =
    some ⟨0x00, 0x00, 0x00, 0xFD, 0x24, 0x0601, none, .halted, []⟩ := by decide
theorem test_t150_slo : seen (start {} [0x07, 0x10] [(0x0010, 0x81)] 0x01 0x00 0x00 0xFD 0x24) =
    some ⟨0x03, 0x00, 0x00, 0xFD, 0x25, 0x0602, (some 5), .ready, [(0x0010, 0x02)]⟩ := by decide
theorem test_t151_rla : seen (start {} [0x27, 0x10] [(0x0010, 0x80)] 0xFF 0x00 0x00 0xFD 0x25) =
    some ⟨0x01, 0x00, 0x00, 0xFD, 0x25, 0x0602, (some 5), .ready, [(0x0010, 0x01)]⟩ := by decide
theorem test_t152_sre : seen (start {} [0x47, 0x10] [(0x0010, 0x03)] 0x0F 0x00 0x00 0xFD 0x24) =
    some ⟨0x0E, 0x00, 0x00, 0xFD, 0x25, 0x0602, (some 5), .ready, [(0x0010, 0x01)]⟩ := by decide
theorem test_t153_rra : seen (start {} [0x67, 0x10] [(0x0010, 0x03)] 0x10 0x00 0x00 0xFD 0x24) =
    some ⟨0x12, 0x00, 0x00, 0xFD, 0x24, 0x0602, (some 5), .ready, [(0x0010, 0x01)]⟩ := by decide
theorem test_t154_sax : seen (start {} [0x87, 0x10] [] 0xF0 0x3C 0x00 0xFD 0x24) =
    some ⟨0xF0, 0x3C, 0x00, 0xFD, 0x24, 0x0602, (some 3), .ready, [(0x0010, 0x30)]⟩ := by decide
theorem test_t155_lax : seen (start {} [0xA7, 0x10] [(0x0010, 0x00)] 0x00 0x00 0x00 0xFD 0x24) =
    some ⟨0x00, 0x00, 0x00, 0xFD, 0x26, 0x0602, (some 3), .ready, []⟩ := by decide
theorem test_t156_dcp : seen (start {} [0xC7, 0x10] [(0x0010, 0x06)] 0x05 0x00 0x00 0xFD 0x24) =
    some ⟨0x05, 0x00, 0x00, 0xFD, 0x27, 0x0602, (some 5), .ready, [(0x0010, 0x05)]⟩ := by decide
theorem test_t157_isb : seen (start {} [0xE7, 0x10] [(0x0010, 0xFF)] 0x05 0x00 0x00 0xFD 0x25) =
    some ⟨0x05, 0x00, 0x00, 0xFD, 0x25, 0x0602, (some 5), .ready, [(0x0010, 0x00)]⟩ := by decide
theorem test_t158_anc : seen (start {} [0x0B, 0x80] [] 0xC0 0x00 0x00 0xFD 0x24) =
    some ⟨0x80, 0x00, 0x00, 0xFD, 0xA5, 0x0602, (some 2), .ready, []⟩ := by decide
theorem test_t159_alr : seen (start {} [0x4B, 0x03] [] 0x03 0x00 0x00 0xFD 0x24) =
    some ⟨0x01, 0x00, 0x00, 0xFD, 0x25, 0x0602, (some 2), .ready, []⟩ := by decide
theorem test_t160_arr : seen (start {} [0x6B, 0xFF] [] 0xC0 0x00 0x00 0xFD 0x24) =
    some ⟨0x60, 0x00, 0x00, 0xFD, 0x25, 0x0602, (some 2), .ready, []⟩ := by decide
theorem test_t161_sbx : seen (start {} [0xCB, 0x01] [] 0x0F 0xF0 0x00 0xFD 0x24) =
    some ⟨0x0F, 0xFF, 0x00, 0xFD, 0xA4, 0x0602, (some 2), .ready, []⟩ := by decide
theorem test_t162_usbc : seen (start {} [0xEB, 0x01] [] 0x00 0x00 0x00 0xFD 0x25) =
    some ⟨0xFF, 0x00, 0x00, 0xFD, 0xA4, 0x0602, (some 2), .ready, []⟩ := by decide
theorem test_t163_xaa : seen (start {} [0x8B, 0x0F] [] 0x00 0xFF 0x00 0xFD 0x24) =
    some ⟨0x0F, 0xFF, 0x00, 0xFD, 0x24, 0x0602, (some 2), .ready, []⟩ := by decide
theorem test_t164_lxa : seen (start {} [0xAB, 0x5A] [] 0x00 0x00 0x00 0xFD 0x24) =
    some ⟨0x5A, 0x5A, 0x00, 0xFD, 0x24, 0x0602, (some 2), .ready, []⟩ := by decide
theorem test_t165_las : seen (start {} [0xBB, 0x00, 0x02] [(0x0200, 0xFF)] 0x00 0x00 0x00 0x0F 0x24) =
    some ⟨0x0F, 0x0F, 0x00, 0x0F, 0x24, 0x0603, (some 4), .ready, []⟩ := by decide
theorem test_t166_tas : seen (start {} [0x9B, 0x00, 0x02] [] 0xFF 0xFF 0x05 0xFD 0x24) =
    some ⟨0xFF, 0xFF, 0x05, 0xFF, 0x24, 0x0603, (some 5), .ready, [(0x0205, 0x03)]⟩ := by decide
theorem test_t167_sha : seen (start {} [0x9F, 0xFF, 0x12] [] 0xFF 0xFF 0x01 0xFD 0x24) =
    some ⟨0xFF, 0xFF, 0x01, 0xFD, 0x24, 0x0603, (some 5), .ready, [(0x1300, 0x13)]⟩ := by decide
theorem test_t168_shx : seen (start {} [0x9E, 0x00, 0x20] [] 0x00 0xFF 0x00 0xFD 0x24) =
    some ⟨0x00, 0xFF, 0x00, 0xFD, 0x24, 0x0603, (some 5), .ready, [(0x2000, 0x21)]⟩ := by decide
theorem test_t169_shy : seen (start {} [0x9C, 0x00, 0x05] [] 0x00 0x10 0x0F 0xFD 0x24) =
    some ⟨0x00, 0x10, 0x0F, 0xFD, 0x24, 0x0603, (some 5), .ready, [(0x0510, 0x06)]⟩ := by decide
theorem test_t173_nop : seen (start ({ strictDecode := true }) [0x1A] [] 0x00 0x00 0x00 0xFD 0x24) =
    some ⟨0x00, 0x00, 0x00, 0xFD, 0x24, 0x0601, (some 2), .ready, []⟩ := by decide

/-- R106: refused under UNDOC_POLICY = refuse, by opcode and address. -/
theorem test_refused : step (start { undocPolicy := .refuse } [0x07, 0x10] [] 0 0 0 0xFD 0x24) =
    .refused (.undocumentedRefused 0x07 0x0600) := rfl

/-- R68 and C3: the RAM window mirrors, and an address outside both windows discards a write. -/
theorem test_nes_mirror : ((start { memMap := .nesStore } [] [] 0 0 0 0xFD 0x24).write 0x0801 0x5A).peek 0x1801 =
    some 0x5A := by decide

theorem test_nes_discard : ((start { memMap := .nesStore } [] [] 0 0 0 0xFD 0x24).write 0x8000 0x5A).peek 0x8000 =
    some 0x00 := by decide

/-- A word placed where the next step fetches. -/
theorem test_withFetchWord : seen (State.reset.withFetchWord 16 0x43A9) =
    some ⟨0x43, 0x00, 0x00, 0xFD, 0x24, 0x0002, some 2, .ready, []⟩ := by decide

/-! ### Witnesses: states and operands that meet the hypotheses of the statements -/

/-- A state under given parameters. -/
def under (cfg : Config) : State := start cfg [] [] 0x12 0x01 0x02 0xFD 0x24

theorem witness_EncodeOfDecode_decodes : decode [0xA9, 0x43, 0x00] = .ok (.ldaImm 0x43, [0x00]) := rfl

theorem witness_EncodeOfDecode_longEnough : (entryOf 0xA9).len ≤ ([0xA9, 0x43] : List Byte).length ∧
    (entryOf 0x4C).len ≤ ([0x4C, 0x00, 0x06] : List Byte).length := by decide

/-- The instruction wraps from 0xFFFF to 0x0000. -/
def wrapping : State := { (under {}).placeBytes 0xFFFF [0x4C, 0x34, 0x12] with pc := 0xFFFF }

theorem witness_StepRunsDecodedInstruction : wrapping.run = .ready ∧ ∀ k, k < (encode (.jmpAbs 0x1234)).length →
    wrapping.peek (wrapping.pc + BitVec.ofNat 16 k) = some ((encode (.jmpAbs 0x1234)).getD k 0) := by decide

theorem witness_StoppedMachine_halted : { State.reset with run := .halted }.run = .halted := rfl
theorem witness_StoppedMachine_faulted : { State.reset with run := .faulted }.run = .faulted := rfl

theorem witness_BrkHalts : State.reset.run = .ready ∧ State.reset.peek State.reset.pc = some 0x00 := by decide

theorem witness_UnmappedOpcodesRunFallback : (under {}).cfg.strictDecode = false ∧
    (under {}).cfg.undocPolicy = .implement ∧ (0xF2, Instr.jamF2) ∈ unmappedForms := by decide

theorem witness_StrictDecodeFaults : (under { strictDecode := true }).cfg.strictDecode = true ∧
    (under { strictDecode := true }).cfg.undocPolicy = .implement ∧ (0x02, Instr.jam02) ∈ unmappedForms := by decide

theorem witness_RefusePolicy_refuses : (Instr.sloZp 0x10).entry.cls ≠ .official ∧ Instr.jam02.entry.cls ≠ .official ∧
    (under { undocPolicy := .refuse }).cfg.undocPolicy = .refuse := by decide

theorem witness_RefusePolicy_refused : exec .jam02 (under { undocPolicy := .refuse }) =
    .refused (.undocumentedRefused 0x02 0x05FF) := rfl

/-- Official under refuse and strict, undocumented under implement and strict, unmapped under implement. -/
theorem witness_EveryInstructionCompletes :
    ((Instr.ldaImm 0).entry.cls = .official ∧ (Instr.ldaImm 0).entry.cls ≠ .unmapped) ∧
    ((under { strictDecode := true }).cfg.undocPolicy = .implement ∧ (Instr.sloZp 0).entry.cls ≠ .unmapped) ∧
    ((under {}).cfg.undocPolicy = .implement ∧ (under {}).cfg.strictDecode = false) ∧ Instr.ldaImm 0 ≠ .brk := by
  decide

theorem witness_NonTransfersAdvance : ∃ t, exec (.ldaImm 0x43) (under {}) = .next t ∧ t.cost ≠ none ∧
    (Instr.ldaImm 0x43).entry.mnemonic ∉ transfers := ⟨_, rfl, by decide, by decide⟩

/-- Pointers at 0xFF, whose high byte is fetched from 0x0000. -/
def pointers : State := start {} [] [(0x00FF, 0x34), (0x0000, 0x12), (0xFFFF, 0x99)] 0 0x01 0x10 0xFD 0x24

theorem witness_EffectiveAddresses_indx : pointers.peek (word16 0x00 (0xFE + pointers.x)) = some 0x34 ∧
    pointers.peek (word16 0x00 (0xFE + pointers.x + 1)) = some 0x12 := by decide

theorem witness_EffectiveAddresses_indy : pointers.peek (word16 0x00 0xFF) = some 0x34 ∧
    pointers.peek (word16 0x00 (0xFF + 1)) = some 0x12 := by decide

theorem witness_EffectiveAddresses_operand : (Operand.absx 0xFFFE).mode ≠ .immediate ∧
    pointers.peek (pointers.ea (.absx 0xFFFE)) = some 0x99 := by decide

/-- The three clauses of Stored at the edges of the windows: backed, another place, no place. -/
theorem witness_Stored_backed : routeOf (under { memMap := .nesStore }).cfg.memMap 0x1FFF = .ram 0x7FF ∧
    routeOf (under {}).cfg.memMap 0xFFFF = .ram 0xFFFF := by decide

theorem witness_Stored_other : routeOf (under {}).cfg.memMap 0x0201 ≠ routeOf (under {}).cfg.memMap 0x0200 ∧
    routeOf (under { memMap := .nesStore }).cfg.memMap 0x2000 ≠
      routeOf (under { memMap := .nesStore }).cfg.memMap 0x1FFF := by decide

theorem witness_Stored_noPlace (k : Nat) : routeOf (under { memMap := .nesStore }).cfg.memMap 0x2000 ≠ .ram k ∧
    routeOf (under { memMap := .nesStore }).cfg.memMap 0x4000 ≠ .ram k := by constructor <;> intro h <;> cases h

theorem witness_SbcSubtracts : (under {}).cfg.sbcForm = .complement ∧ (under {}).cfg.undocPolicy = .implement := by
  decide

theorem witness_PopReturns : routeOf (under {}).cfg.memMap 0x0200 ≠
    routeOf (under {}).cfg.memMap (stackAddr (under {}).sp) := by decide

theorem witness_PlpPulls : (under {}).cfg.plpPolicy = .literal ∧
    (under { plpPolicy := .asRti }).cfg.plpPolicy = .asRti := by decide

/-- UNDOC_POLICY = implement, for the statements about undocumented opcodes. -/
theorem witness_implement : (under {}).cfg.undocPolicy = .implement := by decide

/-- JMP (ind) through 0x02FF: the high byte comes from 0x0200. -/
def indirect : State := start {} [] [(0x02FF, 0x34), (0x0200, 0x12)] 0 0 0 0xFD 0x24

theorem witness_Jumps : indirect.peek (word16 0x02 0xFF) = some 0x34 ∧
    indirect.peek (word16 0x02 (0xFF + 1)) = some 0x12 := by decide

/-- JSR at SP = 0x00, whose second byte lies at 0x01FF. -/
theorem witness_Jsr : routeOf .flat 0x0200 ≠ routeOf .flat (stackAddr 0x00) ∧
    routeOf .flat 0x0200 ≠ routeOf .flat (stackAddr (0x00 - 1)) := by decide

/-- Each branch flag clear and set. -/
theorem witness_Branches : ∀ f ∈ [Flag.n, .v, .c, .z], getFlag f 0x00 = false ∧ getFlag f 0xFF = true := by decide

theorem witness_OnlyListedFlags : (∃ t, exec (.staZp 0x10) (under {}) = .next t) ∧
    ∀ f ∈ [Flag.n, .v, .b5, .b, .d, .i, .z, .c], (Instr.staZp 0x10).entry.mnemonic ∉ flagWriters f :=
  ⟨⟨_, rfl⟩, by decide⟩

theorem witness_OnlyListedRegisters : (∃ t, exec .clc (under {}) = .next t) ∧ Instr.clc.entry.mnemonic ∉ aWriters ∧
    Instr.clc.entry.mnemonic ∉ xWriters ∧ Instr.clc.entry.mnemonic ∉ yWriters ∧
    Instr.clc.entry.mnemonic ∉ spWriters := ⟨⟨_, rfl⟩, by decide⟩

theorem witness_OnlyStoring : (∃ t, exec (.ldaZp 0x10) (under {}) = .next t) ∧
    (Instr.ldaZp 0x10).entry.mnemonic ∉ memWriters := ⟨⟨_, rfl⟩, by decide⟩

theorem witness_BreakAndBit5 : AgreeUnder 0xCF (under {}) { under {} with p := 0x14 } ∧ (under {}).p ≠ 0x14 :=
  ⟨⟨rfl, by decide⟩, by decide⟩

theorem witness_OnlyPhpReads : Instr.adcImm 0x01 ≠ .php ∧
    AgreeUnder 0xF3 (under {}) { under {} with p := 0x28 } ∧ (under {}).p ≠ 0x28 :=
  ⟨by decide, ⟨rfl, by decide⟩, by decide⟩

/-- JMP $0600 at 0x0600. -/
def selfJump : State := start {} [0x4C, 0x00, 0x06] [] 0 0 0 0xFD 0x24

theorem witness_JumpToSelf : selfJump.run = .ready ∧ selfJump.peek selfJump.pc = some 0x4C ∧
    selfJump.peek (selfJump.pc + 1) = some (lo8 selfJump.pc) ∧
    selfJump.peek (selfJump.pc + 2) = some (hi8 selfJump.pc) := by decide

theorem witness_BusReads_held : (under {}).peek 0xFFFF = some 0x00 ∧ (under {}).cfg.memMap = .flat := by decide

/-- At the edges of the windows of R68. -/
theorem witness_BusReads_nes : (under { memMap := .nesStore }).cfg.memMap = .nesStore ∧ (0x1FFF : Word) < 0x2000 ∧
    (0x0000 : Word) < 0x2000 ∧ (0x4000 : Word) ≤ 0x4000 ∧ (0x2000 : Word) ≤ 0x2000 ∧ (0x3FFF : Word) < 0x4000 := by
  decide

/-- One byte fits at 0xFFFF, two do not; both maps. -/
theorem witness_LoadThenReset : (under { loadAddr := 0xFFFF }).cfg.loadAddr.toNat + 1 ≤ 65536 ∧
    65536 < (under { loadAddr := 0xFFFF }).cfg.loadAddr.toNat + 2 ∧ (under {}).cfg.memMap = .flat ∧
    (under { memMap := .nesStore }).cfg.memMap = .nesStore := by decide

/-- The bytes on either side of the reset vector, the last byte of the RAM window, and a byte that no write shares. -/
theorem witness_LoadThenReset_bytes : (0xFFFB : Word) + BitVec.ofNat 16 0 ≠ 0xFFFC ∧
    (0xFFFB : Word) + BitVec.ofNat 16 3 ≠ 0xFFFD ∧ (0x1FFF : Word) + BitVec.ofNat 16 0 < 0x2000 ∧
    (∀ k, k < 2 → routeOf .nesStore 0x0001 ≠ routeOf .nesStore (0x1FFF + BitVec.ofNat 16 k)) ∧
    routeOf .nesStore 0x0001 ≠ routeOf .nesStore 0xFFFC ∧ routeOf .nesStore 0x0001 ≠ routeOf .nesStore 0xFFFD := by
  decide

/-- A machine about to fetch an unmapped opcode under STRICT_DECODE. -/
def strictJam : State := start { strictDecode := true } [0x02] [] 0 0 0 0xFD 0x24

theorem witness_StepKeepsInvariant : strictJam.Inv ∧ ∃ t, step strictJam = .next t ∧ t.run = .faulted :=
  ⟨⟨by decide, by decide, by decide, by decide⟩, _, rfl, rfl⟩

end Sys2Proof.Tests
end

section
/-! SUPPORT. The contract of P (R36, R40). A flag is a bit of P; what a set and what setNZ does to it are
`getFlag_setFlag` and `getFlag_setNZ` of Laws/Flags. -/

namespace Sys2Proof.Machine

open Sys2Proof.Claims

/-- The number of a flag's bit in P, as the layout of R36 lists it. -/
def Flag.bit : Flag → Nat
  | .n => 7 | .v => 6 | .b5 => 5 | .b => 4 | .d => 3 | .i => 2 | .z => 1 | .c => 0

theorem Flag.mask_eq_twoPow (f : Flag) : f.mask = BitVec.twoPow 8 f.bit := by
  cases f <;> rfl

theorem Flag.twoPow_bit_ne_zero (f : Flag) : BitVec.twoPow 8 f.bit ≠ 0 := by
  cases f <;> decide

theorem getFlag_eq_getLsbD (f : Flag) (p : Byte) : getFlag f p = p.getLsbD f.bit := by
  rw [getFlag, f.mask_eq_twoPow, BitVec.and_twoPow]
  cases p.getLsbD f.bit with
  | false => rfl
  | true => exact bne_iff_ne.mpr f.twoPow_bit_ne_zero

theorem onlyFlags_setFlag (f : Flag) (on : Bool) (p : Byte) : OnlyFlags [f] p (setFlag f on p) :=
  fun _ hg => getFlag_setFlag_other on p (List.ne_of_not_mem_cons hg)

theorem flagsOf_setNZ (v p : Byte) : FlagsOf v (setNZ v p) :=
  ⟨getFlag_setNZ .n v p, getFlag_setNZ .z v p⟩

theorem onlyFlags_setNZ (v p : Byte) : OnlyFlags [.n, .z] p (setNZ v p) := by
  intro g hg
  obtain ⟨hn, hz⟩ : g ≠ .n ∧ g ≠ .z := by simpa using hg
  rw [getFlag_setNZ, if_neg hz, if_neg hn]

/-- Settles O28: each flag is its bit of P, and set and setNZ write the flags they name and no other. -/
theorem flagContract : Obligations.FlagContract := by
  refine ⟨fun p => ?layout, fun f on p => ⟨getFlag_setFlag_same f on p, onlyFlags_setFlag f on p⟩,
    fun v p => ⟨flagsOf_setNZ v p, onlyFlags_setNZ v p⟩⟩
  case layout => simp only [getFlag_eq_getLsbD, Flag.bit, and_self]

end Sys2Proof.Machine
end

section
/-! SUPPORT. The contracts of JMP, JSR and the branches (R250 to R252, R255 to R263). The two rules at the head say once
how an official instruction completes, from what its handler ends with: Claims.RunsTo after a write of PC and
Claims.Runs without one (R138, R140). -/

namespace Sys2Proof.Machine

open Sys2Proof.Claims

/-! ### From the handler to the completed instruction -/

@[simp] theorem length_encode (i : Instr) : (encode i).length = i.entry.len := by
  cases i <;> rfl

section
variable {i : Instr} {s t : State} {acc : List BusEvent}

/-- The free draws need no premise: `exec_draws` reads them off the accesses. -/
theorem runsTo_of_jump {target : Word} (hi : i ≠ .brk) (hc : i.entry.cls = .official)
    (hj : handlerFor i.entry (operandOf i) s = .jump target t) (hbus : t.bus = s.bus ++ acc) :
    RunsTo i s t target acc := by
  have hexec : exec i s = .next { t with pc := pcAfterJump i s target, cost := some i.entry.cycles } := by
    rw [exec_of_ne_brk hi, State.enter_official s hc, hj, State.finish_jump, nextPc_some, pcAfterJump, length_encode]
  have hdraws : t.draws = s.draws + drawsOf s.cfg.memMap acc := exec_draws hexec hbus
  rw [RunsTo, hexec, ← hbus, ← hdraws]

theorem runs_of_done (hi : i ≠ .brk) (hc : i.entry.cls = .official)
    (hd : handlerFor i.entry (operandOf i) s = .done t) (hbus : t.bus = s.bus ++ acc) : Runs i s t acc := by
  have hexec : exec i s =
      .next { t with pc := s.pc + BitVec.ofNat 16 ((encode i).length - 1), cost := some i.entry.cycles } := by
    rw [exec_of_ne_brk hi, State.enter_official s hc, hd, State.finish_done, nextPc_none, length_encode]
  have hdraws : t.draws = s.draws + drawsOf s.cfg.memMap acc := exec_draws hexec hbus
  rw [Runs, hexec, ← hbus, ← hdraws]

end

/-! ### JMP -/

@[simp] theorem hi8_word16 (h l : Byte) : hi8 (word16 h l) = h := BitVec.extractLsb'_append_eq_left

@[simp] theorem lo8_word16 (h l : Byte) : lo8 (word16 h l) = l := BitVec.extractLsb'_append_eq_right

theorem jmpIndHighAddr_word16 (h l : Byte) : jmpIndHighAddr (word16 h l) = word16 h (l + 1) := by
  rw [jmpIndHighAddr, hi8_word16, lo8_word16]

theorem handleJmp_abs (w : Word) (s : State) : handleJmp (.abs w) s = .jump w s :=
  State.withEa_of_mode s (by simp [Operand.mode]) _

theorem jmpAbs_runsTo (w : Word) (s : State) : RunsTo (.jmpAbs w) s s w [] :=
  runsTo_of_jump nofun rfl (handleJmp_abs w s) (List.append_nil _).symm

theorem jmpInd_runsTo (ptr : Word) (s : State) :
    RunsTo (.jmpInd ptr) s s (word16 ((s.afterRead ptr).read (jmpIndHighAddr ptr)) (s.read ptr))
      [⟨.read, ptr, s.read ptr⟩, ⟨.read, jmpIndHighAddr ptr, (s.afterRead ptr).read (jmpIndHighAddr ptr)⟩] := by
  have hbus : ((s.afterRead ptr).afterRead (jmpIndHighAddr ptr)).bus = s.bus ++
      [⟨.read, ptr, s.read ptr⟩, ⟨.read, jmpIndHighAddr ptr, (s.afterRead ptr).read (jmpIndHighAddr ptr)⟩] := by simp
  exact runsTo_of_jump (t := (s.afterRead ptr).afterRead (jmpIndHighAddr ptr)) nofun rfl rfl hbus

/-- Settles O36: the two handlers write the target to PC, and a byte that memory holds at the second address is still
held after the first read, which changes no memory. -/
theorem jumpsGoToTheirTargets : Obligations.JumpsGoToTheirTargets := by
  intro l h s
  refine ⟨⟨⟨_, rfl⟩, jmpAbs_runsTo _ s⟩, ⟨_, rfl⟩, ?runs, fun _ hb => s.read_of_peek hb, fun _ hb => ?held⟩
  case runs => simpa only [jmpIndHighAddr_word16] using jmpInd_runsTo (word16 h l) s
  case held => exact State.read_of_peek _ ((s.peek_afterRead _ _).trans hb)

/-! ### JSR -/

theorem State.peek_push_same (s : State) (v : Byte) : (s.push v).peek (stackAddr s.sp) = some v :=
  s.peek_write_same v (routeOf_stackAddr _ _)

theorem State.peek_push_other (s : State) (v : Byte) {addr : Word}
    (h : routeOf s.cfg.memMap addr ≠ routeOf s.cfg.memMap (stackAddr s.sp)) : (s.push v).peek addr = s.peek addr :=
  s.peek_write_other v h

theorem State.push_push_sp (s : State) (u v : Byte) : ((s.push u).push v).sp = s.sp - 2 := by
  simp only [State.push_sp]
  bv_omega

/-- Two pushes leave their bytes at the old SP and below it, modulo the page, and every other place as it was. -/
theorem State.peek_push_push (s : State) (u v : Byte) :
    ((s.push u).push v).peek (stackAddr s.sp) = some u ∧ ((s.push u).push v).peek (stackAddr (s.sp - 1)) = some v ∧
    ∀ addr, routeOf s.cfg.memMap addr ≠ routeOf s.cfg.memMap (stackAddr s.sp) →
      routeOf s.cfg.memMap addr ≠ routeOf s.cfg.memMap (stackAddr (s.sp - 1)) →
      ((s.push u).push v).peek addr = s.peek addr := by
  have hplaces : routeOf s.cfg.memMap (stackAddr s.sp) ≠ routeOf s.cfg.memMap (stackAddr (s.sp - 1)) :=
    stackAddr_route_ne (by bv_omega)
  refine ⟨?top, (s.push u).peek_push_same v, fun addr h1 h2 => ?other⟩
  case top => rw [(s.push u).peek_push_other v hplaces, s.peek_push_same u]
  case other => rw [(s.push u).peek_push_other v h2, s.peek_push_other u h1]

theorem handleJsr_abs (w : Word) (s : State) :
    handleJsr (.abs w) s = .jump w ((s.push (hi8 (s.pc + 1))).push (lo8 (s.pc + 1))) :=
  State.withEa_of_mode s (by simp [Operand.mode]) _

/-- JSR runs to its operand, in the state after its two pushes. -/
theorem jsrAbs_runsTo (w : Word) (s : State) :
    RunsTo (.jsrAbs w) s ((s.push (hi8 (s.pc + 1))).push (lo8 (s.pc + 1))) w
      [⟨.write, stackAddr s.sp, hi8 (s.pc + 1)⟩, ⟨.write, stackAddr (s.sp - 1), lo8 (s.pc + 1)⟩] :=
  runsTo_of_jump nofun rfl (handleJsr_abs w s) (by simp)

/-- Settles O37: the backing store after JSR is that of its two pushes. -/
theorem jsrPushesReturnAddress : Obligations.JsrPushesReturnAddress := by
  intro l h s
  obtain ⟨hhigh, hlow, hother⟩ := s.peek_push_push (hi8 (s.pc + 1)) (lo8 (s.pc + 1))
  refine ⟨⟨_, rfl⟩, ((s.push (hi8 (s.pc + 1))).push (lo8 (s.pc + 1))).mem, ?_, hhigh, hlow, hother⟩
  rw [← s.push_push_sp (hi8 (s.pc + 1)) (lo8 (s.pc + 1))]
  exact jsrAbs_runsTo _ s

/-! ### The branches -/

/-- A branch whose handler tests flag f for the value b, taken and not taken (R255). -/
theorem branch_runs {i : Instr} {s : State} {f : Flag} {b : Bool} {d : Byte} (hi : i ≠ .brk)
    (hc : i.entry.cls = .official)
    (hh : handlerFor i.entry (operandOf i) s = branch (getFlag f s.p == b) d s) :
    (getFlag f s.p = b → RunsTo i s s (s.pc + 1 + BitVec.ofInt 16 d.toInt) []) ∧
    (getFlag f s.p ≠ b → Runs i s s []) := by
  refine ⟨fun htaken => ?taken, fun hnot => ?notTaken⟩
  case taken =>
    rw [branch, if_pos (beq_iff_eq.mpr htaken)] at hh
    exact runsTo_of_jump hi hc hh (List.append_nil _).symm
  case notTaken =>
    rw [branch, if_neg (mt beq_iff_eq.mp hnot)] at hh
    exact runs_of_done hi hc hh (List.append_nil _).symm

/-- Settles O40: the four flags, each tested once for clear and once for set. -/
theorem branchesTestOneFlag : Obligations.BranchesTestOneFlag := by
  intro l h s
  have testsClear (f : Flag) : branch (!getFlag f s.p) l s = branch (getFlag f s.p == false) l s := by rw [beq_false]
  have testsSet (f : Flag) : branch (getFlag f s.p) l s = branch (getFlag f s.p == true) l s := by rw [beq_true]
  simp only [List.forall_mem_cons]
  exact ⟨⟨⟨_, rfl⟩, branch_runs nofun rfl (testsClear .n)⟩, ⟨⟨_, rfl⟩, branch_runs nofun rfl (testsSet .n)⟩,
    ⟨⟨_, rfl⟩, branch_runs nofun rfl (testsClear .v)⟩, ⟨⟨_, rfl⟩, branch_runs nofun rfl (testsSet .v)⟩,
    ⟨⟨_, rfl⟩, branch_runs nofun rfl (testsClear .c)⟩, ⟨⟨_, rfl⟩, branch_runs nofun rfl (testsSet .c)⟩,
    ⟨⟨_, rfl⟩, branch_runs nofun rfl (testsClear .z)⟩, ⟨⟨_, rfl⟩, branch_runs nofun rfl (testsSet .z)⟩, nofun⟩

end Sys2Proof.Machine
end

section
/-! SUPPORT. The contracts of STA, STX, STY (R163 to R165) and of the transfers TAX, TAY, TXA, TYA and TSX (R166 to
R170). Each family has one rule that says how a form completes from what its handler ends with; an encoding then only
shows that it decodes, is official, and has that handler. -/

namespace Sys2Proof.Machine

open Sys2Proof.Claims

/-! ### The stores -/

/-- A bus write leaves the backing store that `Stored` describes, whichever window the address lies in (R66 to R68). -/
theorem State.stored_write (s : State) (addr : Word) (v : Byte) : Stored s (s.write addr v).mem addr v := by
  have holds (b : Word) : { s with mem := (s.write addr v).mem }.peek b = (s.write addr v).peek b :=
    State.peek_congr rfl rfl b
  refine ⟨fun k hram => ?backed, fun other hne => ?other, fun hnone => ?noPlace⟩
  case backed => rw [holds, s.peek_write_same v hram]
  case other => rw [holds, s.peek_write_other v hne]
  case noPlace =>
    rw [State.write_mem]
    cases hroute : routeOf s.cfg.memMap addr with
    | ram k => exact absurd hroute (hnone k)
    | peripheral => rfl
    | unbacked => rfl

/-- The resolver adds its pointer reads to the bus record and changes nothing else (R110, R118, R119). -/
theorem State.afterEa_eq (s : State) (o : Operand) : s.afterEa o = { s with bus := s.bus ++ pointerReads s o } := by
  have hframe : s.afterEa o = { s with bus := (s.afterEa o).bus, draws := (s.afterEa o).draws } := by
    cases o <;> rfl
  have hbus : (s.afterEa o).bus = s.bus ++ pointerReads s o := by
    rw [State.afterEa_bus]
    cases o <;> rfl
  rw [hframe, State.afterEa_draws, hbus]

/-- The write of ea after the resolver, as one record update. -/
theorem State.write_afterEa_eq (s : State) (o : Operand) (v : Byte) : (s.afterEa o).write (s.ea o) v =
    { s with mem := (s.write (s.ea o) v).mem, bus := s.bus ++ writes s o v } := by
  rw [State.afterEa_eq, writes, ← List.append_assoc]
  rfl

theorem stores_of_storing {op l h v : Byte} {i : Instr} {o : Operand} {s : State} (hread : ReadsAs op l h i)
    (hi : i ≠ .brk) (hc : i.entry.cls = .official) (hmode : o.mode ≠ .implied)
    (hh : handlerFor i.entry (operandOf i) s = s.storing o v) : Stores ⟨op, i, o⟩ l h s v := by
  rw [State.storing_of_mode s hmode, State.write_afterEa_eq] at hh
  have hruns := runs_of_done (acc := writes s o v) hi hc hh rfl
  exact ⟨hread, (s.write (s.ea o) v).mem, hruns, s.stored_write _ v⟩

/-- Settles O16: the handler of each encoding is `State.storing` of its register at its operand. -/
theorem storesWriteOneByte : Obligations.StoresWriteOneByte := by
  intro l h s
  refine ⟨fun f hf => ?sta, fun f hf => ?stx, fun f hf => ?sty⟩
  case sta => fin_cases hf <;> exact stores_of_storing ⟨_, rfl⟩ nofun rfl nofun rfl
  case stx => fin_cases hf <;> exact stores_of_storing ⟨_, rfl⟩ nofun rfl nofun rfl
  case sty => fin_cases hf <;> exact stores_of_storing ⟨_, rfl⟩ nofun rfl nofun rfl

/-! ### The transfers -/

/-- A handler that ends by setting N and Z from v, with P untouched until then. -/
theorem yields_of_setNZ {op l h v : Byte} {i : Instr} {o : Operand} {s t : State} {acc : List BusEvent}
    (hread : ReadsAs op l h i) (hi : i ≠ .brk) (hc : i.entry.cls = .official)
    (hh : handlerFor i.entry (operandOf i) s = .done (t.setNZ v)) (hp : t.p = s.p) (hbus : t.bus = s.bus ++ acc) :
    Yields ⟨op, i, o⟩ l h s t v acc := by
  have hruns : Runs i s { t with p := setNZ v s.p } acc := by
    rw [State.setNZ, hp] at hh
    exact runs_of_done hi hc hh hbus
  exact ⟨hread, setNZ v s.p, hruns, flagsOf_setNZ v s.p, onlyFlags_setNZ v s.p⟩

/-- Settles O17: each handler writes one register from another and sets N and Z from the value it copied. -/
theorem transfersCopyAndSetNZ : Obligations.TransfersCopyAndSetNZ := by
  intro l h s
  have noAccess : s.bus = s.bus ++ [] := (List.append_nil _).symm
  exact ⟨yields_of_setNZ ⟨_, rfl⟩ nofun rfl rfl rfl noAccess, yields_of_setNZ ⟨_, rfl⟩ nofun rfl rfl rfl noAccess,
    yields_of_setNZ ⟨_, rfl⟩ nofun rfl rfl rfl noAccess, yields_of_setNZ ⟨_, rfl⟩ nofun rfl rfl rfl noAccess,
    yields_of_setNZ ⟨_, rfl⟩ nofun rfl rfl rfl noAccess⟩

end Sys2Proof.Machine
end

section
/-! SUPPORT. The contracts of INC and DEC (R189, R190) and of INX, INY, DEX and DEY (R191 to R194). A handler that reads
M and writes ea adds exactly `Claims.modifies` to the bus record (R74, R220), whatever it writes back. -/

namespace Sys2Proof.Machine

open Sys2Proof.Claims

/-! ### INC and DEC -/

/-- The resolver and the read of M add `Claims.reads` to the bus record and change nothing else but the free draws (R66). -/
theorem State.afterOperand_eq (s : State) {o : Operand} (hmode : o.mode ≠ .implied) :
    s.afterOperand o = { s with bus := s.bus ++ reads s o, draws := (s.afterOperand o).draws } := by
  have hframe : s.afterOperand o =
      { s with bus := (s.afterOperand o).bus, draws := (s.afterOperand o).draws } := by
    cases o <;> rfl
  have hbus : (s.afterOperand o).bus = s.bus ++ reads s o := by
    rw [State.afterOperand_bus, State.afterEa_eq]
    cases o with
    | implied => exact absurd rfl hmode
    | _ => exact List.append_assoc ..
  rw [← hbus]
  exact hframe

/-- The read of M and the write of ea after the resolver, as one record update. -/
theorem State.write_afterOperand_eq (s : State) {o : Operand} (hmode : o.mode ≠ .implied) (v : Byte) :
    (s.afterOperand o).write (s.ea o) v =
      { s with mem := (s.write (s.ea o) v).mem, bus := s.bus ++ modifies s o v, draws := (s.afterOperand o).draws } := by
  rw [s.afterOperand_eq hmode, modifies, ← List.append_assoc]
  rfl

/-- A read-modify-write that sets N and Z from the byte r M that it writes back. -/
theorem yields_stored_of_modifying {op l h : Byte} {i : Instr} {o : Operand} {s : State} (r : Byte → Byte)
    (hread : ReadsAs op l h i) (hi : i ≠ .brk) (hc : i.entry.cls = .official) (hmode : o.mode ≠ .implied)
    (hh : handlerFor i.entry (operandOf i) s = s.modifying o r fun v t => t.setNZ (r v)) :
    ∃ mem, Yields ⟨op, i, o⟩ l h s { s with mem := mem } (r (s.operandVal o))
        (modifies s o (r (s.operandVal o))) ∧
      Stored s mem (s.ea o) (r (s.operandVal o)) := by
  rw [State.modifying_of_mode s hmode, State.write_afterOperand_eq s hmode] at hh
  have hyields := yields_of_setNZ (o := o) hread hi hc hh rfl rfl
  exact ⟨_, hyields, s.stored_write _ _⟩

/-- Settles O22: the handler of each encoding is `State.modifying` with the successor, or the predecessor, of M. -/
theorem memoryIncrementAndDecrement : Obligations.MemoryIncrementAndDecrement := by
  intro l h s
  refine ⟨fun f hf => ?inc, fun f hf => ?dec⟩
  case inc => fin_cases hf <;> exact yields_stored_of_modifying (· + 1) ⟨_, rfl⟩ nofun rfl nofun rfl
  case dec => fin_cases hf <;> exact yields_stored_of_modifying (· - 1) ⟨_, rfl⟩ nofun rfl nofun rfl

/-! ### INX, INY, DEX and DEY -/

/-- Settles O23: each handler counts one register and sets N and Z from its new value. -/
theorem registerIncrementAndDecrement : Obligations.RegisterIncrementAndDecrement := by
  intro l h s
  have noAccess : s.bus = s.bus ++ [] := (List.append_nil _).symm
  exact ⟨yields_of_setNZ ⟨_, rfl⟩ nofun rfl rfl rfl noAccess, yields_of_setNZ ⟨_, rfl⟩ nofun rfl rfl rfl noAccess,
    yields_of_setNZ ⟨_, rfl⟩ nofun rfl rfl rfl noAccess, yields_of_setNZ ⟨_, rfl⟩ nofun rfl rfl rfl noAccess⟩

end Sys2Proof.Machine
end

section
/-! SUPPORT. The contracts of BIT (R214) and of ASL, LSR, ROL and ROR (R215 to R220). The four shift cores of the model
are one core, `Shift.core`, at the four shifts that the claims state independently. -/

namespace Sys2Proof.Machine

open Sys2Proof.Claims

theorem onlyFlags_trans {fs gs : List Flag} {p q r : Byte} (hpq : OnlyFlags fs p q) (hqr : OnlyFlags gs q r) :
    OnlyFlags (fs ++ gs) p r := by
  intro f hf
  obtain ⟨hfs, hgs⟩ := not_or.mp (mt List.mem_append.mpr hf)
  exact (hqr f hgs).trans (hpq f hfs)

/-! ### BIT -/

theorem getFlag_bitCore (f : Flag) (a m p : Byte) : getFlag f (bitCore a m p) =
    if f = .v then m.getLsbD 6 else if f = .n then m.getLsbD 7 else if f = .z then (a &&& m) == 0x00
    else getFlag f p := by
  simp only [bitCore, getFlag_setFlag]

theorem onlyFlags_bitCore (a m p : Byte) : OnlyFlags [.z, .n, .v] p (bitCore a m p) :=
  onlyFlags_trans (onlyFlags_trans (onlyFlags_setFlag .z _ _) (onlyFlags_setFlag .n _ _)) (onlyFlags_setFlag .v _ _)

theorem runs_of_handleBit {i : Instr} {o : Operand} {s : State} (hi : i ≠ .brk) (hc : i.entry.cls = .official)
    (hmode : o.mode ≠ .implied) (hh : handlerFor i.entry (operandOf i) s = handleBit o s) :
    Runs i s { s with p := bitCore s.a (s.operandVal o) s.p } (reads s o) := by
  rw [handleBit, State.withM_of_mode s hmode, s.afterOperand_eq hmode] at hh
  have hruns := runs_of_done (acc := reads s o) hi hc hh rfl
  exact hruns

/-- Settles O26: the handler of both encodings writes `bitCore` of A and M to P. -/
theorem bitTestsAgainstA : Obligations.BitTestsAgainstA := by
  intro l h s f hf
  have hforms : ReadsAs f.op l h f.instr ∧
      Runs f.instr s { s with p := bitCore s.a (s.operandVal f.arg) s.p } (reads s f.arg) := by
    fin_cases hf <;> dsimp only <;> exact ⟨⟨_, rfl⟩, runs_of_handleBit nofun rfl nofun rfl⟩
  obtain ⟨hread, hruns⟩ := hforms
  exact ⟨hread, _, hruns, getFlag_bitCore .z .., getFlag_bitCore .n .., getFlag_bitCore .v .., onlyFlags_bitCore _ _ _⟩

/-! ### The shifts and rotates -/

/-- The result and the new P of a shift of R215: C from the bit shifted out, then N and Z from the result. -/
def Shift.core (k : Shift) (v p : Byte) : Byte × Byte :=
  (k.result v (getFlag .c p), setNZ (k.result v (getFlag .c p)) (setFlag .c (k.out v) p))

theorem aslCore_eq : aslCore = Shift.core asl := rfl
theorem lsrCore_eq : lsrCore = Shift.core lsr := rfl
theorem rolCore_eq : rolCore = Shift.core rol := rfl
theorem rorCore_eq : rorCore = Shift.core ror := rfl

theorem shiftFlags_core (k : Shift) (v p : Byte) : ShiftFlags k v p (Shift.core k v p).2 := by
  refine ⟨?carry, flagsOf_setNZ _ _, onlyFlags_trans (onlyFlags_setFlag .c _ _) (onlyFlags_setNZ _ _)⟩
  case carry => exact (onlyFlags_setNZ _ _ .c (by decide)).trans (getFlag_setFlag_same .c _ p)

section
variable {i : Instr} {s : State} {k : Shift} {core : Byte → Byte → Byte × Byte}

theorem runs_of_handleShiftM {o : Operand} (hcore : core = Shift.core k) (hi : i ≠ .brk)
    (hc : i.entry.cls = .official) (hmode : o.mode ≠ .implied)
    (hh : handlerFor i.entry (operandOf i) s = handleShiftM core o s) :
    ∃ mem p, Runs i s { s with mem := mem, p := p } (modifies s o (k.result (s.operandVal o) (getFlag .c s.p))) ∧
      Stored s mem (s.ea o) (k.result (s.operandVal o) (getFlag .c s.p)) ∧
      ShiftFlags k (s.operandVal o) s.p p := by
  rw [hcore, handleShiftM, State.modifying_of_mode s hmode, State.write_afterOperand_eq s hmode] at hh
  have hruns := runs_of_done (acc := modifies s o (Shift.core k (s.operandVal o) s.p).1) hi hc hh rfl
  exact ⟨_, _, hruns, s.stored_write _ _, shiftFlags_core k _ _⟩

theorem runs_of_handleShiftA (hcore : core = Shift.core k) (hi : i ≠ .brk) (hc : i.entry.cls = .official)
    (hh : handlerFor i.entry (operandOf i) s = handleShiftA core s) :
    ∃ p, Runs i s { s with a := k.result s.a (getFlag .c s.p), p := p } [] ∧ ShiftFlags k s.a s.p p := by
  rw [hcore] at hh
  exact ⟨_, runs_of_done hi hc hh (List.append_nil _).symm, shiftFlags_core k _ _⟩

end

/-- Settles O27: each handler is `handleShiftM` or `handleShiftA` with the core of its shift. -/
theorem shiftsAndRotates : Obligations.ShiftsAndRotates := by
  intro l h s
  refine ⟨fun g hg f hf => ?memory, fun g hg => ?accumulator⟩
  case memory =>
    fin_cases hg
    · fin_cases hf <;> dsimp only <;> exact ⟨⟨_, rfl⟩, runs_of_handleShiftM aslCore_eq nofun rfl nofun rfl⟩
    · fin_cases hf <;> dsimp only <;> exact ⟨⟨_, rfl⟩, runs_of_handleShiftM lsrCore_eq nofun rfl nofun rfl⟩
    · fin_cases hf <;> dsimp only <;> exact ⟨⟨_, rfl⟩, runs_of_handleShiftM rolCore_eq nofun rfl nofun rfl⟩
    · fin_cases hf <;> dsimp only <;> exact ⟨⟨_, rfl⟩, runs_of_handleShiftM rorCore_eq nofun rfl nofun rfl⟩
  case accumulator =>
    fin_cases hg
    · exact ⟨⟨_, rfl⟩, runs_of_handleShiftA aslCore_eq nofun rfl rfl⟩
    · exact ⟨⟨_, rfl⟩, runs_of_handleShiftA lsrCore_eq nofun rfl rfl⟩
    · exact ⟨⟨_, rfl⟩, runs_of_handleShiftA rolCore_eq nofun rfl rfl⟩
    · exact ⟨⟨_, rfl⟩, runs_of_handleShiftA rorCore_eq nofun rfl rfl⟩

end Sys2Proof.Machine
end

section
/-! SUPPORT. The contracts of PHA, PHP and PLA (R230 to R232) and of CLC, SEC, CLI, SEI, CLD, SED and CLV (R234 to
R240). One rule says how a push completes and one how the write of a flag does; PLA is a handler that ends by setting
N and Z. -/

namespace Sys2Proof.Machine

open Sys2Proof.Claims

/-! ### PHA and PHP -/

theorem runs_of_push {i : Instr} {s : State} {v : Byte} (hi : i ≠ .brk) (hc : i.entry.cls = .official)
    (hh : handlerFor i.entry (operandOf i) s = .done (s.push v)) :
    ∃ mem, Runs i s { s with sp := s.sp - 1, mem := mem } [⟨.write, stackAddr s.sp, v⟩] ∧
      Stored s mem (stackAddr s.sp) v := by
  have hruns : Runs i s (s.push v) [⟨.write, stackAddr s.sp, v⟩] := runs_of_done hi hc hh (s.push_bus v)
  exact ⟨(s.push v).mem, hruns, s.stored_write (stackAddr s.sp) v⟩

/-- Settles O31: the two handlers push A and `pushImage` of P, and a push is one bus write at the old SP. -/
theorem pushesWriteStack : Obligations.PushesWriteStack := by
  intro l h s
  exact ⟨⟨⟨_, rfl⟩, runs_of_push (v := s.a) nofun rfl rfl⟩, ⟨_, rfl⟩, runs_of_push (v := pushImage s.p) nofun rfl rfl⟩

/-! ### PLA -/

/-- Settles O32: the handler writes the popped byte to A and sets N and Z from it; the pop is one read at SP + 1. -/
theorem plaPullsAccumulator : Obligations.PlaPullsAccumulator := by
  intro l h s
  have hyields : Yields ⟨0x68, .pla, .implied⟩ l h s (s.afterPop.setA s.popVal) s.popVal
      [⟨.read, stackAddr (s.sp + 1), s.popVal⟩] :=
    yields_of_setNZ ⟨_, rfl⟩ nofun rfl rfl rfl s.afterPop_bus
  exact hyields

/-! ### The flag instructions -/

theorem runs_of_setFlag {i : Instr} {s : State} {f : Flag} {on : Bool} (hi : i ≠ .brk)
    (hc : i.entry.cls = .official) (hh : handlerFor i.entry (operandOf i) s = .done (s.setFlag f on)) :
    ∃ p, Runs i s { s with p := p } [] ∧ getFlag f p = on ∧ OnlyFlags [f] s.p p :=
  ⟨setFlag f on s.p, runs_of_done hi hc hh (List.append_nil _).symm, getFlag_setFlag_same f on s.p,
    onlyFlags_setFlag f on s.p⟩

/-- Settles O34: each of the seven handlers is one `setFlag` on P. -/
theorem flagInstructionsSetOneFlag : Obligations.FlagInstructionsSetOneFlag := by
  intro l h s g hg
  fin_cases hg <;> exact ⟨⟨_, rfl⟩, runs_of_setFlag nofun rfl rfl⟩

end Sys2Proof.Machine
end

section
/-! SUPPORT. The contract of RTS (R253): a second pop reads what it would have read without the first, because the stack
page is in RAM under both maps (R72). -/

namespace Sys2Proof.Machine

open Sys2Proof.Claims

/-- A pop as one record update: the stack page is no peripheral, so no free draw is used up (R66, R71). -/
theorem State.afterPop_eq (s : State) :
    s.afterPop = { s with sp := s.sp + 1, bus := s.bus ++ [⟨.read, stackAddr (s.sp + 1), s.popVal⟩] } := by
  have hframe : s.afterPop = { s with sp := s.sp + 1, bus := s.afterPop.bus, draws := s.afterPop.draws } := rfl
  rw [hframe, State.afterPop_draws, State.afterPop_bus]

theorem sp_add_one_add_one (sp : Byte) : sp + 1 + 1 = sp + 2 := BitVec.add_assoc sp 1 1

theorem State.popVal_afterPop (s : State) : s.afterPop.popVal = s.read (stackAddr (s.sp + 2)) := by
  have hbacked : routeOf s.cfg.memMap (stackAddr (s.sp + 2)) ≠ .peripheral := by simp [routeOf_stackAddr]
  rw [State.popVal, State.afterPop_sp, sp_add_one_add_one]
  exact State.read_congr (s := s) (t := s.afterPop) rfl rfl hbacked

/-- Two pops are two reads, at the two stack addresses after SP. -/
theorem State.afterPop_afterPop_eq (s : State) : s.afterPop.afterPop = { s with
    sp := s.sp + 2
    bus := s.bus ++ [⟨.read, stackAddr (s.sp + 1), s.read (stackAddr (s.sp + 1))⟩,
      ⟨.read, stackAddr (s.sp + 2), s.read (stackAddr (s.sp + 2))⟩] } := by
  rw [State.afterPop_eq s.afterPop, State.popVal_afterPop, State.afterPop_sp, sp_add_one_add_one, State.afterPop_bus,
    List.append_assoc, State.afterPop_eq s]
  rfl

theorem handleRts_eq (s : State) : handleRts s =
    .jump (word16 (s.read (stackAddr (s.sp + 2))) (s.read (stackAddr (s.sp + 1))) + 1) s.afterPop.afterPop := by
  rw [handleRts, State.popVal_afterPop, State.popVal]

/-- Settles O38: the handler goes to the word of the two popped bytes plus 1, in the state after the two pops. -/
theorem rtsPopsReturnAddress : Obligations.RtsPopsReturnAddress := by
  intro l h s
  have hjump := handleRts_eq s
  rw [State.afterPop_afterPop_eq] at hjump
  have hruns := runsTo_of_jump (i := .rts) nofun rfl hjump rfl
  exact ⟨⟨_, rfl⟩, hruns⟩

end Sys2Proof.Machine
end

section
/-! SUPPORT. The contracts of SLO, RLA, SRE, RRA and DCP (R281 to R284, R287), of SAX and LAX (R285, R286) and of LAS
(R296). One rule for each kind of access says how an undocumented instruction completes from what its handler does to
the registers; the flags come from the contracts of setNZ, the shifts, the adder and the comparator. -/

namespace Sys2Proof.Machine

open Sys2Proof.Claims

/-! ### Flags -/

theorem onlyFlags_of_subset {fs gs : List Flag} {p q : Byte} (h : OnlyFlags fs p q) (hsub : fs ⊆ gs) :
    OnlyFlags gs p q :=
  fun f hf => h f fun hmem => hf (hsub hmem)

/-- A shift of v followed by N and Z of w: C is still the bit shifted out (R281 to R283). -/
theorem flags_setNZ_shiftCore (k : Shift) (v w p : Byte) :
    getFlag .c (setNZ w (Shift.core k v p).2) = k.out v ∧ FlagsOf w (setNZ w (Shift.core k v p).2) ∧
      OnlyFlags [.c, .n, .z] p (setNZ w (Shift.core k v p).2) := by
  obtain ⟨hcarry, -, honly⟩ := shiftFlags_core k v p
  have hsetNZ := onlyFlags_setNZ w (Shift.core k v p).2
  exact ⟨(hsetNZ .c (by decide)).trans hcarry, flagsOf_setNZ w _,
    onlyFlags_of_subset (onlyFlags_trans honly hsetNZ) (by decide)⟩

/-- R181's mask form of the signed overflow: the operands have one sign and the result has the other. -/
theorem overflowMask_eq (a m r : Byte) : (((m ^^^ r) &&& (r ^^^ a) &&& 0x80) != 0) =
    (a.getLsbD 7 == m.getLsbD 7 && r.getLsbD 7 != a.getLsbD 7) := by
  have hbit : (((m ^^^ r) &&& (r ^^^ a) &&& 0x80) != 0) = ((m ^^^ r) &&& (r ^^^ a)).getLsbD 7 :=
    getFlag_eq_getLsbD .n _
  have hsigns : ∀ sa sm sr : Bool, ((sm ^^ sr) && (sr ^^ sa)) = (sa == sm && sr != sa) := by decide
  rw [hbit, BitVec.getLsbD_and, BitVec.getLsbD_xor, BitVec.getLsbD_xor, hsigns]

theorem added_adcCore (a m p : Byte) : Added a m p (adcCore a m p).1 (adcCore a m p).2 := by
  refine ⟨rfl, ?carry, ?overflow, flagsOf_setNZ _ _, onlyFlags_trans
    (onlyFlags_trans (onlyFlags_setFlag .c _ _) (onlyFlags_setFlag .v _ _)) (onlyFlags_setNZ _ _)⟩
  case carry =>
    have hkept (v : Byte) (on : Bool) (q : Byte) : getFlag .c (setNZ v (setFlag .v on q)) = getFlag .c q :=
      onlyFlags_trans (onlyFlags_setFlag .v on q) (onlyFlags_setNZ v _) .c (by decide)
    exact (hkept _ _ _).trans (getFlag_setFlag_same .c _ p)
  case overflow =>
    simp only [adcCore, getFlag_setNZ, getFlag_setFlag, overflowMask_eq, reduceCtorEq, if_true, if_false]

/-- The adder reads no flag but C, and writes N and Z itself, so that N and Z of its P do not matter. -/
theorem added_of_added_setNZ {a m v p r q : Byte} (h : Added a m (setNZ v p) r q) : Added a m p r q := by
  obtain ⟨hr, hc, hv, hnz, honly⟩ := h
  have hsetNZ := onlyFlags_setNZ v p
  rw [hsetNZ .c (by decide)] at hr hc
  exact ⟨hr, hc, hv, hnz, onlyFlags_of_subset (onlyFlags_trans hsetNZ honly) (by decide)⟩

theorem compared_cmpCore (reg m p : Byte) : Compared reg m p (cmpCore reg m p) := by
  refine ⟨?carry, ?zero, ?negative, onlyFlags_trans
    (onlyFlags_trans (onlyFlags_setFlag .c _ _) (onlyFlags_setFlag .z _ _)) (onlyFlags_setFlag .n _ _)⟩
  case carry => simp [cmpCore, getFlag_setFlag, BitVec.le_def]
  case zero => simp [cmpCore, getFlag_setFlag]
  case negative => exact getFlag_setFlag_same .n _ _

/-! ### From the handler to the completed instruction -/

theorem ne_brk_of_undocumented {i : Instr} (hc : i.entry.cls = .undocumented) : i ≠ .brk := by
  rintro rfl
  cases hc

section
variable {op l h v : Byte} {i : Instr} {o : Operand} {s : State}

/-- As `runs_of_done`, for an undocumented instruction, which runs under UNDOC_POLICY = implement (R280). -/
theorem runs_of_done_undocumented {t : State} {acc : List BusEvent} (hpol : s.cfg.undocPolicy = .implement)
    (hc : i.entry.cls = .undocumented) (hd : handlerFor i.entry (operandOf i) s = .done t)
    (hbus : t.bus = s.bus ++ acc) : Runs i s t acc := by
  have hmapped : i.entry.cls ≠ .unmapped := by simp [hc]
  have hexec : exec i s =
      .next { t with pc := s.pc + BitVec.ofNat 16 ((encode i).length - 1), cost := some i.entry.cycles } := by
    rw [exec_of_ne_brk (ne_brk_of_undocumented hc), State.enter_mapped s hmapped hpol, hd, State.finish_done,
      nextPc_none, length_encode]
  have hdraws : t.draws = s.draws + drawsOf s.cfg.memMap acc := exec_draws hexec hbus
  rw [Runs, hexec, ← hbus, ← hdraws]

/-- A read-modify-write whose continuation writes A and P alone, from values that the accesses do not change. -/
theorem runs_stored_of_modifying {r : Byte → Byte} {k : Byte → State → State}
    (hpol : s.cfg.undocPolicy = .implement) (hc : i.entry.cls = .undocumented) (hmode : o.mode ≠ .implied)
    (hh : handlerFor i.entry (operandOf i) s = s.modifying o r k)
    (hk : ∀ mem bus draws, k (s.operandVal o) { s with mem := mem, bus := bus, draws := draws } =
      { s with mem := mem, bus := bus, draws := draws
               p := (k (s.operandVal o) s).p, a := (k (s.operandVal o) s).a }) :
    ∃ mem, Runs i s { s with mem := mem, p := (k (s.operandVal o) s).p, a := (k (s.operandVal o) s).a }
        (modifies s o (r (s.operandVal o))) ∧
      Stored s mem (s.ea o) (r (s.operandVal o)) := by
  rw [State.modifying_of_mode s hmode, State.write_afterOperand_eq s hmode, hk] at hh
  have hruns := runs_of_done_undocumented hpol hc hh rfl
  exact ⟨_, hruns, s.stored_write _ _⟩

/-- A handler that reads M and ends by setting N and Z from v, with P untouched until then. -/
theorem yields_of_withM {u : State} {k : Byte → State → Effect} (hread : ReadsAs op l h i)
    (hpol : s.cfg.undocPolicy = .implement) (hc : i.entry.cls = .undocumented) (hmode : o.mode ≠ .implied)
    (hh : handlerFor i.entry (operandOf i) s = s.withM o k) (hp : u.p = s.p)
    (hk : ∀ bus draws, k (s.operandVal o) { s with bus := bus, draws := draws } =
      .done (State.setNZ { u with bus := bus, draws := draws } v)) :
    Yields ⟨op, i, o⟩ l h s u v (reads s o) := by
  rw [State.withM_of_mode s hmode, s.afterOperand_eq hmode, hk, State.setNZ, hp] at hh
  have hruns := runs_of_done_undocumented (acc := reads s o) hpol hc hh rfl
  exact ⟨hread, setNZ v s.p, hruns, flagsOf_setNZ v s.p, onlyFlags_setNZ v s.p⟩

theorem stores_of_storing_undocumented (hread : ReadsAs op l h i) (hpol : s.cfg.undocPolicy = .implement)
    (hc : i.entry.cls = .undocumented) (hmode : o.mode ≠ .implied)
    (hh : handlerFor i.entry (operandOf i) s = s.storing o v) : Stores ⟨op, i, o⟩ l h s v := by
  rw [State.storing_of_mode s hmode, State.write_afterEa_eq] at hh
  have hruns := runs_of_done_undocumented (acc := writes s o v) hpol hc hh rfl
  exact ⟨hread, _, hruns, s.stored_write _ v⟩

/-! ### SLO, RLA and SRE -/

/-- A shift of the byte at ea whose result is combined into A. -/
theorem runs_of_shiftComposite {k : Shift} {core : Byte → Byte → Byte × Byte} (combine : Byte → Byte → Byte)
    (hcore : core = Shift.core k) (hpol : s.cfg.undocPolicy = .implement) (hc : i.entry.cls = .undocumented)
    (hmode : o.mode ≠ .implied)
    (hh : handlerFor i.entry (operandOf i) s = s.modifying o (fun v => (core v s.p).1) fun v t =>
      ((t.setP (core v s.p).2).setA (combine s.a (core v s.p).1)).setNZ (combine s.a (core v s.p).1)) :
    let r := k.result (s.operandVal o) (getFlag .c s.p)
    ∃ mem p, Runs i s { s with mem := mem, p := p, a := combine s.a r } (modifies s o r) ∧ Stored s mem (s.ea o) r ∧
      getFlag .c p = k.out (s.operandVal o) ∧ FlagsOf (combine s.a r) p ∧ OnlyFlags [.c, .n, .z] s.p p := by
  subst hcore
  obtain ⟨mem, hruns, hstored⟩ := runs_stored_of_modifying hpol hc hmode hh fun _ _ _ => rfl
  exact ⟨mem, _, hruns, hstored, flags_setNZ_shiftCore k _ _ _⟩

/-! ### RRA and DCP -/

theorem runs_of_handleRra (hpol : s.cfg.undocPolicy = .implement) (hc : i.entry.cls = .undocumented)
    (hmode : o.mode ≠ .implied) (hh : handlerFor i.entry (operandOf i) s = handleRra o s) :
    let r := ror.result (s.operandVal o) (getFlag .c s.p)
    ∃ mem a p, Runs i s { s with mem := mem, p := p, a := a } (modifies s o r) ∧ Stored s mem (s.ea o) r ∧
      Added s.a r (setFlag .c ((s.operandVal o).getLsbD 0) s.p) a p := by
  obtain ⟨mem, hruns, hstored⟩ := runs_stored_of_modifying hpol hc hmode hh fun _ _ _ => rfl
  exact ⟨mem, _, _, hruns, hstored, added_of_added_setNZ (added_adcCore s.a _ (rorCore (s.operandVal o) s.p).2)⟩

theorem runs_of_handleDcp (hpol : s.cfg.undocPolicy = .implement) (hc : i.entry.cls = .undocumented)
    (hmode : o.mode ≠ .implied) (hh : handlerFor i.entry (operandOf i) s = handleDcp o s) :
    let r := s.operandVal o - 1
    ∃ mem p, Runs i s { s with mem := mem, p := p } (modifies s o r) ∧ Stored s mem (s.ea o) r ∧
      Compared s.a r s.p p := by
  obtain ⟨mem, hruns, hstored⟩ := runs_stored_of_modifying hpol hc hmode hh fun _ _ _ => rfl
  exact ⟨mem, _, hruns, hstored, compared_cmpCore s.a _ s.p⟩

/-! ### LAX -/

theorem yields_of_handleLax (hread : ReadsAs op l h i) (hpol : s.cfg.undocPolicy = .implement)
    (hc : i.entry.cls = .undocumented) (hmode : o.mode ≠ .implied)
    (hh : handlerFor i.entry (operandOf i) s = handleLax o s) :
    Yields ⟨op, i, o⟩ l h s { s with a := s.operandVal o, x := s.operandVal o } (s.operandVal o) (reads s o) :=
  yields_of_withM hread hpol hc hmode hh rfl fun _ _ => rfl

end

/-! ### The instructions' contracts -/

/-- Settles O41: each handler is the composite of its shift core and its operation on A. -/
theorem shiftComposites : Obligations.ShiftComposites := by
  intro l h s hpol g hg f hf
  fin_cases hg
  · fin_cases hf <;> dsimp only <;>
      exact ⟨⟨_, rfl⟩, runs_of_shiftComposite (· ||| ·) aslCore_eq hpol rfl nofun rfl⟩
  · fin_cases hf <;> dsimp only <;>
      exact ⟨⟨_, rfl⟩, runs_of_shiftComposite (· &&& ·) rolCore_eq hpol rfl nofun rfl⟩
  · fin_cases hf <;> dsimp only <;>
      exact ⟨⟨_, rfl⟩, runs_of_shiftComposite (· ^^^ ·) lsrCore_eq hpol rfl nofun rfl⟩

/-- Settles O42: RRA adds with the P of its rotation, and DCP compares with the byte it writes back. -/
theorem arithmeticComposites : Obligations.ArithmeticComposites := by
  intro l h s hpol
  refine ⟨fun f hf => ?rra, fun f hf => ?dcp⟩
  case rra => fin_cases hf <;> dsimp only <;> exact ⟨⟨_, rfl⟩, runs_of_handleRra hpol rfl nofun rfl⟩
  case dcp => fin_cases hf <;> dsimp only <;> exact ⟨⟨_, rfl⟩, runs_of_handleDcp hpol rfl nofun rfl⟩

/-- Settles O44: SAX is one store of A & X, LAX one read of M that ends by setting N and Z from it. -/
theorem combinedLoadAndStore : Obligations.CombinedLoadAndStore := by
  intro l h s hpol
  refine ⟨fun f hf => ?sax, fun f hf => ?lax⟩
  case sax => fin_cases hf <;> exact stores_of_storing_undocumented ⟨_, rfl⟩ hpol rfl nofun rfl
  case lax => fin_cases hf <;> exact yields_of_handleLax ⟨_, rfl⟩ hpol rfl nofun rfl

/-- Settles O47: LAS is one read of M that ends by setting N and Z from M & SP. -/
theorem lasLoadsThreeRegisters : Obligations.LasLoadsThreeRegisters := by
  intro l h s hpol
  have hh : handlerFor (Instr.lasAbsy (word16 h l)).entry (operandOf (.lasAbsy (word16 h l))) s =
      handleLas (.absy (word16 h l)) s := rfl
  exact yields_of_withM ⟨_, rfl⟩ hpol rfl nofun hh rfl fun _ _ => rfl

end Sys2Proof.Machine
end

section
/-! SUPPORT. The decoder and the encoder are inverse to each other (R90 to R92). Two facts about the opcode map say so,
one in each direction: it reads the bytes of every instruction as that instruction, and what it reads is encoded in the
opcode byte and as many of the two bytes after it as the entry asks for. -/

namespace Sys2Proof.Machine

open Sys2Proof.Claims

/-! ### The opcode map -/

@[simp] theorem word16_hi8_lo8 (w : Word) : word16 (hi8 w) (lo8 w) = w :=
  (BitVec.extractLsb'_append_extractLsb'_eq_extractLsb' (by decide)).trans BitVec.extractLsb'_eq_self

theorem opcode_entryOf (op : Byte) : (entryOf op).opcode = op := by
  revert op
  decide

theorem entryOf_opcode (i : Instr) : entryOf i.entry.opcode = i.entry := by
  cases i <;> simp only [Instr.entry] <;> rfl

/-- The forms with a 16-bit operand hold where the word is split and put together again, the others by computation. -/
theorem buildInstr_encode (i : Instr) :
    buildInstr ((encode i).getD 0 0) ((encode i).getD 1 0) ((encode i).getD 2 0) = i := by
  cases i <;> simp only [encode, List.getD_cons_zero, List.getD_cons_succ]
  any_goals rfl
  all_goals exact congrArg _ (word16_hi8_lo8 _)

theorem encode_injective : Function.Injective encode := by
  intro i j h
  rw [← buildInstr_encode i, h, buildInstr_encode]

/-- As `encode_buildInstr`, with the opcode byte given by an instruction that has it. -/
theorem encode_buildInstr_opcode (i : Instr) (l h : Byte) :
    encode (buildInstr i.entry.opcode l h) = i.entry.opcode :: [l, h].take (i.entry.len - 1) := by
  cases i <;> simp only [Instr.entry]
  any_goals rfl
  all_goals exact congrArg₂ (fun x y => [_, x, y]) (lo8_word16 h l) (hi8_word16 h l)

theorem encode_buildInstr (op l h : Byte) :
    encode (buildInstr op l h) = op :: [l, h].take ((entryOf op).len - 1) := by
  have hop : (buildInstr op 0 0).entry.opcode = op := opcode_entryOf op
  have hbytes := encode_buildInstr_opcode (buildInstr op 0 0) l h
  rwa [hop] at hbytes

/-- What an opcode byte builds depends on no byte past the entry's length. -/
theorem buildInstr_congr {op l h l' h' : Byte}
    (hsame : [l, h].take ((entryOf op).len - 1) = [l', h'].take ((entryOf op).len - 1)) :
    buildInstr op l h = buildInstr op l' h' :=
  encode_injective (by rw [encode_buildInstr, encode_buildInstr, hsame])

theorem head_encode (i : Instr) : (encode i).getD 0 0 = i.entry.opcode := by
  cases i <;> rfl

theorem entry_len_le (i : Instr) : 1 ≤ i.entry.len ∧ i.entry.len ≤ 3 := by
  cases i <;> simp only [Instr.entry] <;> decide

/-! ### Decode and encode -/

theorem decode_cons (op : Byte) (tail : List Byte) (hlen : (entryOf op).len - 1 ≤ tail.length) :
    decode (op :: tail) = .ok (buildInstr op (tail.getD 0 0) (tail.getD 1 0), tail.drop ((entryOf op).len - 1)) :=
  if_neg (Nat.not_lt.mpr hlen)

/-- A list of operand bytes begins with the bytes that the decoder reads from it. -/
theorem take_getD (tail : List Byte) {n : Nat} (h2 : n ≤ 2) (hn : n ≤ tail.length) :
    [tail.getD 0 0, tail.getD 1 0].take n = tail.take n := by
  match n, tail with
  | 0, _ => rfl
  | 1, [_] | 1, _ :: _ :: _ => rfl
  | 2, _ :: _ :: _ => rfl

/-- The decoder splits a list of bytes at the end of the instruction it reads. -/
theorem encode_decode_cons (op : Byte) (tail : List Byte) (hlen : (entryOf op).len - 1 ≤ tail.length) :
    encode (buildInstr op (tail.getD 0 0) (tail.getD 1 0)) ++ tail.drop ((entryOf op).len - 1) = op :: tail := by
  have h2 : (entryOf op).len - 1 ≤ 2 := Nat.sub_le_sub_right (entry_len_le (buildInstr op 0 0)).2 1
  rw [encode_buildInstr, take_getD tail h2 hlen, List.cons_append, List.take_append_drop]

/-- Settles O2: the bytes of i decode to an instruction j and a rest whose bytes are the same; i and j have the same
opcode, hence the same length, and so the two splits of the list are one. -/
theorem decodeOfEncodeIsIdentity : Obligations.DecodeOfEncodeIsIdentity := by
  intro i rest
  obtain ⟨op, operands, hi⟩ : ∃ op operands, encode i = op :: operands :=
    List.exists_cons_of_length_pos (by rw [length_encode]; exact (entry_len_le i).1)
  have hop : op = i.entry.opcode := by rw [← head_encode, hi, List.getD_cons_zero]
  have hcount : (entryOf op).len - 1 = operands.length := by
    have := length_encode i
    rw [hop, entryOf_opcode, ← this, hi, List.length_cons, Nat.add_sub_cancel]
  have hlen : (entryOf op).len - 1 ≤ (operands ++ rest).length := by simp [hcount]
  have hsplit := encode_decode_cons op (operands ++ rest) hlen
  rw [hcount, List.drop_left, ← List.cons_append, ← hi] at hsplit
  rw [hi, List.cons_append, decode_cons op _ hlen, hcount, List.drop_left,
    encode_injective (List.append_cancel_right hsplit)]

/-- Settles O3: what decodes is an opcode byte with its operand bytes, and `encode_decode_cons` splits it. -/
theorem encodeOfDecodeIsIdentity : Obligations.EncodeOfDecodeIsIdentity := by
  refine fun bytes => ⟨fun i rest hdec => ?split, fun op tail hbytes hlen => ?total⟩
  case split =>
    match bytes with
    | [] => cases hdec
    | op :: tail =>
      by_cases hshort : tail.length < (entryOf op).len - 1
      · rw [decode, if_pos hshort] at hdec
        cases hdec
      · have hlen := Nat.not_lt.mp hshort
        rw [decode_cons op tail hlen] at hdec
        cases hdec
        exact (encode_decode_cons op tail hlen).symm
  case total =>
    subst hbytes
    exact ⟨_, _, decode_cons op tail (Nat.sub_le_of_le_add hlen)⟩

end Sys2Proof.Machine
end

section
/-! SUPPORT. Noninterference: which bits of P an instruction reads (R38, R39, R41, R42). No handler but PHP's reads
more of P than N, V, Z and C, so that two states that differ in P alone, and agree under a mask that holds these four,
go through every handler and through the engine alike. Two such states are s and s.setP q. -/

namespace Sys2Proof.Machine

open Sys2Proof.Claims

/-! ### States that differ in P -/

/-- The mask holds the four flags that handlers read. -/
def HoldsReadFlags (mask : Byte) : Prop := ∀ f ∈ [Flag.n, .v, .z, .c], f.mask &&& mask = f.mask

theorem agreeUnder_setP {mask q : Byte} {s : State} (h : s.p &&& mask = q &&& mask) :
    AgreeUnder mask s (s.setP q) := ⟨rfl, h⟩

theorem exists_setP_of_agreeUnder {mask : Byte} {s t : State} (h : AgreeUnder mask s t) :
    ∃ q, t = s.setP q ∧ s.p &&& mask = q &&& mask := ⟨t.p, h⟩

@[simp] theorem State.read_setP (s : State) (q : Byte) (addr : Word) : (s.setP q).read addr = s.read addr := rfl

@[simp] theorem State.ea_setP (s : State) (q : Byte) (o : Operand) : (s.setP q).ea o = s.ea o := by
  cases o <;> rfl

@[simp] theorem State.afterEa_setP (s : State) (q : Byte) (o : Operand) :
    (s.setP q).afterEa o = (s.afterEa o).setP q := by
  cases o <;> rfl

@[simp] theorem State.operandVal_setP (s : State) (q : Byte) (o : Operand) :
    (s.setP q).operandVal o = s.operandVal o := by
  cases o <;> rfl

@[simp] theorem State.afterOperand_setP (s : State) (q : Byte) (o : Operand) :
    (s.setP q).afterOperand o = (s.afterOperand o).setP q := by
  cases o <;> rfl

@[simp] theorem State.baseHighPlusOne_setP (s : State) (q : Byte) (o : Operand) :
    (s.setP q).baseHighPlusOne o = s.baseHighPlusOne o := by
  cases o <;> rfl

@[simp] theorem State.afterRead_setP (s : State) (q : Byte) (addr : Word) :
    (s.setP q).afterRead addr = (s.afterRead addr).setP q := rfl

/-- The fetch reads no bit of P. -/
theorem State.fetchInstr_setP (s : State) (q : Byte) : (s.setP q).fetchInstr = s.fetchInstr := by
  by_cases h2 : 2 ≤ (entryOf (s.read s.pc)).len <;> by_cases h3 : 3 ≤ (entryOf (s.read s.pc)).len <;>
    simp [State.fetchInstr, h2, h3]

theorem State.afterFetch_setP (s : State) (q : Byte) : (s.setP q).afterFetch = s.afterFetch.setP q := by
  by_cases h2 : 2 ≤ (entryOf (s.read s.pc)).len <;> by_cases h3 : 3 ≤ (entryOf (s.read s.pc)).len <;>
    simp [State.afterFetch, h2, h3] <;> rfl

/-! ### The flag computations -/

/-- A computation on P gives the same result, and the same P under the mask, for two P that agree under it. -/
def KeepsAgreement (mask : Byte) (core : Byte → Byte × Byte) : Prop :=
  ∀ p q : Byte, p &&& mask = q &&& mask → (core p).1 = (core q).1 ∧ (core p).2 &&& mask = (core q).2 &&& mask

section
variable {mask : Byte}

theorem HoldsReadFlags.getFlag_eq (hm : HoldsReadFlags mask) {p q : Byte} (h : p &&& mask = q &&& mask) {f : Flag}
    (hf : f ∈ [Flag.n, .v, .z, .c]) : getFlag f p = getFlag f q :=
  getFlag_congr (hm f hf) h

variable (hm : HoldsReadFlags mask)
include hm

theorem adcCore_keepsAgreement (a m : Byte) : KeepsAgreement mask (adcCore a m) := by
  intro p q h
  have hc : carryNat p = carryNat q := by rw [carryNat, carryNat, hm.getFlag_eq h (by decide)]
  simp only [adcCore, hc, true_and]
  exact setNZ_congr _ (setFlag_congr .v _ (setFlag_congr .c _ h))

theorem shiftCore_keepsAgreement (k : Shift) (v : Byte) : KeepsAgreement mask (Shift.core k v) := by
  intro p q h
  simp only [Shift.core, hm.getFlag_eq h (f := .c) (by decide), true_and]
  exact setNZ_congr _ (setFlag_congr .c _ h)

theorem arrCore_keepsAgreement (a m : Byte) : KeepsAgreement mask (arrCore a m) := by
  intro p q h
  simp only [arrCore, hm.getFlag_eq h (f := .c) (by decide), true_and]
  exact setFlag_congr .v _ (setFlag_congr .c _ (setNZ_congr _ h))

omit hm

theorem ancCore_keepsAgreement (a m : Byte) : KeepsAgreement mask (ancCore a m) :=
  fun _ _ h => ⟨rfl, setFlag_congr .c _ (setNZ_congr _ h)⟩

theorem cmpCore_congr (reg m : Byte) {p q : Byte} (h : p &&& mask = q &&& mask) :
    cmpCore reg m p &&& mask = cmpCore reg m q &&& mask :=
  setFlag_congr .n _ (setFlag_congr .z _ (setFlag_congr .c _ h))

theorem bitCore_congr (a m : Byte) {p q : Byte} (h : p &&& mask = q &&& mask) :
    bitCore a m p &&& mask = bitCore a m q &&& mask :=
  setFlag_congr .v _ (setFlag_congr .n _ (setFlag_congr .z _ h))

end

/-! ### Effects that agree -/

/-- Two handlers end alike: the same kind, target and reason, in states that agree under the mask. -/
inductive SameEffect (mask : Byte) : Effect → Effect → Prop
  | done {s t : State} (h : AgreeUnder mask s t) : SameEffect mask (.done s) (.done t)
  | jump {s t : State} (w : Word) (h : AgreeUnder mask s t) : SameEffect mask (.jump w s) (.jump w t)
  | raise {s t : State} (r : FaultReason) (h : AgreeUnder mask s t) : SameEffect mask (.raise r s) (.raise r t)

section
variable {mask : Byte} {s : State} {o : Operand} {q : Byte}

/-- A result of a computation on P written to A, and its P to P. -/
theorem agree_setA_setP {core : Byte → Byte × Byte} (hcore : KeepsAgreement mask core) {p : Byte}
    (hp : p &&& mask = q &&& mask) (s : State) (r : Byte) :
    AgreeUnder mask ((s.setA (core p).1).setP (core p).2) (((s.setP r).setA (core q).1).setP (core q).2) := by
  obtain ⟨hresult, hflags⟩ := hcore p q hp
  rw [hresult]
  exact ⟨rfl, hflags⟩

theorem agree_addToA (hm : HoldsReadFlags mask) (m : Byte) (hp : s.p &&& mask = q &&& mask) :
    AgreeUnder mask (s.addToA m) ((s.setP q).addToA m) :=
  agree_setA_setP (adcCore_keepsAgreement hm s.a m) hp s q

variable (hp : s.p &&& mask = q &&& mask)
include hp

theorem sameEffect_branch {cond cond' : Bool} (hcond : cond = cond') (d : Byte) :
    SameEffect mask (branch cond d s) (branch cond' d (s.setP q)) := by
  subst hcond
  cases cond with
  | false => exact .done (agreeUnder_setP hp)
  | true => exact .jump _ (agreeUnder_setP hp)

theorem sameEffect_handlePhp (himage : pushImage s.p = pushImage q) :
    SameEffect mask (handlePhp s) (handlePhp (s.setP q)) := by
  rw [handlePhp, handlePhp, State.setP_p, himage]
  exact .done ⟨rfl, hp⟩

theorem sameEffect_withEa {k k' : Word → State → Effect}
    (hk : ∀ ea bus, SameEffect mask (k ea { s with bus := bus }) (k' ea ({ s with bus := bus }.setP q))) :
    SameEffect mask (s.withEa o k) ((s.setP q).withEa o k') := by
  by_cases hmode : o.mode = .implied
  · rw [State.withEa, State.withEa, if_pos hmode, if_pos hmode]
    exact .raise _ (agreeUnder_setP hp)
  · rw [State.withEa_of_mode _ hmode, State.withEa_of_mode _ hmode, State.ea_setP, State.afterEa_setP,
      State.afterEa_eq]
    exact hk _ _

theorem sameEffect_withM {k k' : Byte → State → Effect}
    (hk : ∀ m bus draws, SameEffect mask (k m { s with bus := bus, draws := draws })
      (k' m ({ s with bus := bus, draws := draws }.setP q))) :
    SameEffect mask (s.withM o k) ((s.setP q).withM o k') := by
  by_cases hmode : o.mode = .implied
  · rw [State.withM, State.withM, State.withEa, State.withEa, if_pos hmode, if_pos hmode]
    exact .raise _ (agreeUnder_setP hp)
  · rw [State.withM_of_mode _ hmode, State.withM_of_mode _ hmode, State.operandVal_setP, State.afterOperand_setP,
      s.afterOperand_eq hmode]
    exact hk _ _ _

theorem sameEffect_storing (v : Byte) : SameEffect mask (s.storing o v) ((s.setP q).storing o v) :=
  sameEffect_withEa hp fun _ _ => .done ⟨rfl, hp⟩

/-- A read-modify-write that writes back the result of a computation on P. -/
theorem sameEffect_modifying {r r' : Byte → Byte} {k k' : Byte → State → State} (hr : ∀ v, r v = r' v)
    (hk : ∀ v mem bus draws, AgreeUnder mask (k v { s with mem := mem, bus := bus, draws := draws })
      (k' v ({ s with mem := mem, bus := bus, draws := draws }.setP q))) :
    SameEffect mask (s.modifying o r k) ((s.setP q).modifying o r' k') := by
  obtain rfl := funext hr
  refine sameEffect_withM hp fun v bus draws => ?_
  rw [State.ea_setP]
  exact .done (hk _ _ _ _)

variable {core : Byte → Byte → Byte × Byte} {k : Shift} (hm : HoldsReadFlags mask) (hcore : core = Shift.core k)
include hm hcore

theorem sameEffect_shiftA : SameEffect mask (handleShiftA core s) (handleShiftA core (s.setP q)) := by
  subst hcore
  exact .done (agree_setA_setP (shiftCore_keepsAgreement hm k s.a) hp s q)

theorem sameEffect_shiftM : SameEffect mask (handleShiftM core o s) (handleShiftM core o (s.setP q)) := by
  subst hcore
  have hshift (v : Byte) := shiftCore_keepsAgreement hm k v s.p q hp
  exact sameEffect_modifying hp (fun v => (hshift v).1) fun v _ _ _ => ⟨rfl, (hshift v).2⟩

/-- A shift of the byte at ea whose result is combined into A (R281 to R283). -/
theorem sameEffect_shiftComposite (combine : Byte → Byte → Byte) :
    SameEffect mask
      (s.modifying o (fun v => (core v s.p).1) fun v t =>
        ((t.setP (core v s.p).2).setA (combine s.a (core v s.p).1)).setNZ (combine s.a (core v s.p).1))
      ((s.setP q).modifying o (fun v => (core v q).1) fun v t =>
        ((t.setP (core v q).2).setA (combine s.a (core v q).1)).setNZ (combine s.a (core v q).1)) := by
  subst hcore
  have hshift (v : Byte) := shiftCore_keepsAgreement hm k v s.p q hp
  refine sameEffect_modifying hp (fun v => (hshift v).1) fun v _ _ _ => ?_
  obtain ⟨hresult, hflags⟩ := hshift v
  rw [hresult]
  exact ⟨rfl, setNZ_congr _ hflags⟩

end

/-! ### The handlers -/

/-- Every handler ends alike in two states that agree on the flags that handlers read; PHP's, which reads all of P, if
the two push images are one. -/
theorem handlerFor_sameEffect {mask q : Byte} (hm : HoldsReadFlags mask) (e : Entry) (o : Operand) (s : State)
    (hp : s.p &&& mask = q &&& mask) (hphp : e.mnemonic = .php → pushImage s.p = pushImage q) :
    SameEffect mask (handlerFor e o s) (handlerFor e o (s.setP q)) := by
  have hflag {f : Flag} (hf : f ∈ [Flag.n, .v, .z, .c]) : getFlag f s.p = getFlag f q := hm.getFlag_eq hp hf
  have hshift (k : Shift) (v : Byte) := shiftCore_keepsAgreement hm k v s.p q hp
  unfold handlerFor
  cases hmn : e.mnemonic
  case lda | ldx | ldy | lax | and | ora | eor | xaa | lxa | las =>
    exact sameEffect_withM hp fun _ _ _ => .done ⟨rfl, setNZ_congr _ hp⟩
  case sta | stx | sty | sax | sha | shx | shy => exact sameEffect_storing hp _
  case tas => exact sameEffect_withEa hp fun _ _ => .done ⟨rfl, hp⟩
  case adc => exact sameEffect_withM hp fun m _ _ => .done (agree_addToA hm m hp)
  case sbc | usbc => exact sameEffect_withM hp fun m _ _ => .done (agree_addToA hm (sbcOperand s.cfg.sbcForm m) hp)
  case cmp | cpx | cpy => exact sameEffect_withM hp fun _ _ _ => .done ⟨rfl, cmpCore_congr _ _ hp⟩
  case bit => exact sameEffect_withM hp fun _ _ _ => .done ⟨rfl, bitCore_congr _ _ hp⟩
  case inc | dec => exact sameEffect_modifying hp (fun _ => rfl) fun _ _ _ _ => ⟨rfl, setNZ_congr _ hp⟩
  case dcp => exact sameEffect_modifying hp (fun _ => rfl) fun _ _ _ _ => ⟨rfl, cmpCore_congr _ _ hp⟩
  case isb =>
    exact sameEffect_modifying hp (fun _ => rfl) fun _ _ _ _ => agree_addToA hm (sbcOperand s.cfg.sbcForm _) hp
  case slo => exact sameEffect_shiftComposite hp hm aslCore_eq (· ||| ·)
  case rla => exact sameEffect_shiftComposite hp hm rolCore_eq (· &&& ·)
  case sre => exact sameEffect_shiftComposite hp hm lsrCore_eq (· ^^^ ·)
  case rra =>
    refine sameEffect_modifying hp (fun v => (hshift ror v).1) fun v mem bus draws => ?_
    obtain ⟨hresult, hflags⟩ := hshift ror v
    exact hresult ▸ agree_addToA hm (Shift.core ror v s.p).1 hflags
  case asl => split <;> [exact sameEffect_shiftA hp hm aslCore_eq; exact sameEffect_shiftM hp hm aslCore_eq]
  case lsr => split <;> [exact sameEffect_shiftA hp hm lsrCore_eq; exact sameEffect_shiftM hp hm lsrCore_eq]
  case rol => split <;> [exact sameEffect_shiftA hp hm rolCore_eq; exact sameEffect_shiftM hp hm rolCore_eq]
  case ror => split <;> [exact sameEffect_shiftA hp hm rorCore_eq; exact sameEffect_shiftM hp hm rorCore_eq]
  case anc => exact sameEffect_withM hp fun m _ _ => .done (agree_setA_setP (ancCore_keepsAgreement s.a m) hp _ _)
  case arr => exact sameEffect_withM hp fun m _ _ => .done (agree_setA_setP (arrCore_keepsAgreement hm s.a m) hp _ _)
  case alr =>
    exact sameEffect_withM hp fun m _ _ => .done (agree_setA_setP (shiftCore_keepsAgreement hm lsr (s.a &&& m)) hp _ _)
  case sbx => exact sameEffect_withM hp fun _ _ _ => .done ⟨rfl, setNZ_congr _ (setFlag_congr .c _ hp)⟩
  case tax | tay | txa | tya | tsx | inx | iny | dex | dey | pla => exact .done ⟨rfl, setNZ_congr _ hp⟩
  case clc | sec | cli | sei | cld | sed | clv => exact .done ⟨rfl, setFlag_congr _ _ hp⟩
  case txs | pha | jam | brk => exact .done ⟨rfl, hp⟩
  case php => exact sameEffect_handlePhp hp (hphp hmn)
  case plp => exact .done ⟨rfl, rfl⟩
  case rti => exact .jump _ ⟨rfl, rfl⟩
  case rts => exact .jump _ ⟨rfl, hp⟩
  case jsr => exact sameEffect_withEa hp fun _ _ => .jump _ ⟨rfl, hp⟩
  case jmp => split <;> [exact .jump _ ⟨rfl, hp⟩; exact sameEffect_withEa hp fun _ _ => .jump _ ⟨rfl, hp⟩]
  case nop => split <;> [exact .done ⟨rfl, hp⟩; exact sameEffect_withM hp fun _ _ _ => .done ⟨rfl, hp⟩]
  case bmi | bvs | bcs | beq => exact sameEffect_branch hp (hflag (by decide)) _
  case bpl | bvc | bcc | bne => exact sameEffect_branch hp (congrArg not (hflag (by decide))) _

/-! ### The engine -/

theorem finish_agreeUnder {mask q : Byte} (s : State) (e : Entry) {r r' : Effect} (h : SameEffect mask r r') :
    AgreeUnder mask (s.finish e r) ((s.setP q).finish e r') := by
  cases h with
  | done hstate =>
    obtain ⟨_, rfl, hp⟩ := exists_setP_of_agreeUnder hstate
    exact ⟨rfl, hp⟩
  | jump _ hstate =>
    obtain ⟨_, rfl, hp⟩ := exists_setP_of_agreeUnder hstate
    exact ⟨rfl, hp⟩
  | raise _ hstate =>
    obtain ⟨_, rfl, hp⟩ := exists_setP_of_agreeUnder hstate
    exact ⟨rfl, hp⟩

theorem enter_sameOutcome {mask q : Byte} {s : State} (i : Instr) {handler : State → Effect}
    (hp : s.p &&& mask = q &&& mask) (hh : SameEffect mask (handler s) (handler (s.setP q))) :
    SameOutcome mask (s.enter i handler) ((s.setP q).enter i handler) := by
  unfold State.enter
  rw [State.setP_cfg, State.setP_pc]
  split
  · rfl
  · split
    · exact ⟨rfl, hp⟩
    · exact finish_agreeUnder s i.entry hh

theorem eq_php_of_mnemonic {i : Instr} (h : i.entry.mnemonic = .php) : i = .php := by
  cases i <;> simp [Instr.entry] at h ⊢

theorem exec_sameOutcome {mask q : Byte} (hm : HoldsReadFlags mask) (i : Instr) (s : State)
    (hp : s.p &&& mask = q &&& mask) (hphp : i = .php → pushImage s.p = pushImage q) :
    SameOutcome mask (exec i s) (exec i (s.setP q)) := by
  by_cases hi : i = .brk
  · subst hi
    exact ⟨rfl, hp⟩
  · rw [exec_of_ne_brk hi, exec_of_ne_brk hi]
    exact enter_sameOutcome i hp (handlerFor_sameEffect hm i.entry (operandOf i) s hp fun hmn =>
      hphp (eq_php_of_mnemonic hmn))

/-- B and bit 5 are 1 in the push image whatever P is (R37). -/
theorem pushImage_congr {p q : Byte} (h : p &&& 0xCF = q &&& 0xCF) : pushImage p = pushImage q := by
  have himage : ∀ p : Byte, pushImage p = (p &&& 0xCF) ||| 0x30 := by decide
  rw [himage, himage, h]

/-- Settles O52: the fetch reads no bit of P, and no handler reads B or bit 5, PHP's included, whose push image has both
set. -/
theorem breakAndBit5AreNeverRead : Obligations.BreakAndBit5AreNeverRead := by
  intro s t h
  obtain ⟨q, rfl, hp⟩ := exists_setP_of_agreeUnder h
  by_cases hrun : s.run = .ready
  · have hbegin : (s.setP q).beginStep = s.beginStep.setP q := rfl
    rw [step_ready s hrun, step_ready (s.setP q) hrun, hbegin, State.fetchInstr_setP, State.afterFetch_setP]
    refine exec_sameOutcome (by unfold HoldsReadFlags; decide) _ _ ?_ fun _ => pushImage_congr ?_ <;>
      rwa [State.afterFetch_p]
  · rw [step_stopped s hrun, step_stopped (s.setP q) hrun]
    exact ⟨rfl, hp⟩

/-- Settles O53: D and I are not among the four flags that handlers read, and PHP is left out. -/
theorem onlyPhpReadsDecimalAndInterrupt : Obligations.OnlyPhpReadsDecimalAndInterrupt := by
  intro i s t hi h
  obtain ⟨q, rfl, hp⟩ := exists_setP_of_agreeUnder h
  exact exec_sameOutcome (by unfold HoldsReadFlags; decide) i s hp fun hphp => absurd hphp hi

end Sys2Proof.Machine
end

section
/-! SUPPORT. What an instruction does around its handler and what it leaves alone: the cases of exec, the invariant
(R46, R47, R320), completion (R322) and the advance (R138). -/

namespace Sys2Proof.Machine

open Sys2Proof.Claims

/-! ### The cases of exec -/

/-- An instruction that answers a next state has halted, faulted under STRICT_DECODE, or run its handler (R324). -/
theorem exec_next_cases {i : Instr} {s t : State} (h : exec i s = .next t) :
    (i = .brk ∧ t = s.halt) ∨
    (i.entry.cls = .unmapped ∧ s.cfg.strictDecode = true ∧
      t = s.raiseFault .unmappedOpcode i.entry.opcode (s.pc - 1)) ∨
    (i ≠ .brk ∧ t = s.finish i.entry (handlerFor i.entry (operandOf i) s)) := by
  by_cases hi : i = .brk
  · subst hi
    cases h
    exact .inl ⟨rfl, rfl⟩
  · rw [exec_of_ne_brk hi] at h
    obtain ⟨-, -, henter⟩ | ⟨hcls, hstrict, henter⟩ | henter :=
      s.enter_cases i (handlerFor i.entry (operandOf i)) <;> rw [henter] at h <;> cases h
    · exact .inr (.inl ⟨hcls, hstrict, rfl⟩)
    · exact .inr (.inr ⟨hi, rfl⟩)

/-- After a handler that raised nothing the engine puts out the cost and leaves the run state and the record. -/
theorem finish_of_not_raised (s : State) (e : Entry) {r : Effect} (h : r.raised = false) :
    (s.finish e r).run = r.state.run ∧ (s.finish e r).faultRec = r.state.faultRec ∧
    (s.finish e r).cost = some e.cycles := by
  cases r with
  | done t => exact ⟨rfl, rfl, rfl⟩
  | jump w t => exact ⟨rfl, rfl, rfl⟩
  | raise reason t => cases h

/-- An instruction that runs its handler keeps the run state, the fault record and the configuration (R137, R139). -/
theorem finish_handlerFor_control (i : Instr) (s : State) :
    (s.finish i.entry (handlerFor i.entry (operandOf i) s)).run = s.run ∧
    (s.finish i.entry (handlerFor i.entry (operandOf i) s)).faultRec = s.faultRec ∧
    (s.finish i.entry (handlerFor i.entry (operandOf i) s)).cfg = s.cfg ∧
    (s.finish i.entry (handlerFor i.entry (operandOf i) s)).cost = some i.entry.cycles := by
  obtain ⟨hrun, hrec, hcfg⟩ := handlerFor_control i.entry (operandOf i) s
  obtain ⟨hrun', hrec', hcost⟩ := finish_of_not_raised s i.entry (handlerFor_raised i s)
  exact ⟨hrun'.trans hrun, hrec'.trans hrec, (State.finish_cfg ..).trans hcfg, hcost⟩

/-! ### The invariant -/

theorem State.Inv.faultRec_of_ready {s : State} (h : s.Inv) (hrun : s.run = .ready) : s.faultRec = none := by
  have hnot : ¬ s.faultRec.isSome = true := fun hsome => by
    rw [h.recordInFaulted.mpr hsome] at hrun
    cases hrun
  simpa using hnot

/-- Every instruction keeps the invariant, from a READY state, and the configuration. -/
theorem exec_keeps_inv {i : Instr} {s t : State} (h : s.Inv) (hrun : s.run = .ready) (hexec : exec i s = .next t) :
    t.Inv ∧ t.cfg = s.cfg := by
  have hrec := h.faultRec_of_ready hrun
  obtain ⟨-, rfl⟩ | ⟨hcls, hstrict, rfl⟩ | ⟨-, rfl⟩ := exec_next_cases hexec
  · exact ⟨⟨h.memWf, by simp [hrec], by simp [hrec], fun _ => rfl⟩, rfl⟩
  · refine ⟨⟨h.memWf, by simp, ?possible, fun _ => rfl⟩, rfl⟩
    case possible => simp [FaultRecord.possible, hstrict, entryOf_opcode, hcls]
  · obtain ⟨hrun', hrec', hcfg, -⟩ := finish_handlerFor_control i s
    have hmem := handlerFor_memWf i.entry (operandOf i) s h.memWf
    refine ⟨⟨?memWf, ?inFaulted, ?possible, fun hstopped => absurd (hrun'.trans hrun) hstopped⟩, hcfg⟩
    case memWf => rwa [hcfg, State.finish_mem]
    case inFaulted => simp [hrun', hrec', hrun, hrec]
    case possible => simp [hrec', hrec]

theorem State.Inv.afterFetch {s : State} (h : s.Inv) (hrun : s.run = .ready) : s.beginStep.afterFetch.Inv := by
  have hrec := h.faultRec_of_ready hrun
  refine ⟨?_, by simp [hrun, hrec], by simp [hrec], fun _ => by simp⟩
  simpa using h.memWf

/-- Settles O59: a stopped machine stays as it is, and a READY one runs an instruction from a state after the fetch that
meets the invariant. -/
theorem stepKeepsInvariant : Obligations.StepKeepsInvariant := by
  intro s t h hstep
  by_cases hrun : s.run = .ready
  · rw [step_ready s hrun] at hstep
    obtain ⟨hinv, hcfg⟩ := exec_keeps_inv (h.afterFetch hrun) (by simpa using hrun) hstep
    exact ⟨hinv, hcfg.trans (by simp)⟩
  · rw [step_stopped s hrun] at hstep
    cases hstep
    exact ⟨h, rfl⟩

/-- Settles O60: both states are READY with an empty memory and no fault record. -/
theorem resetMeetsInvariant : Obligations.ResetMeetsInvariant :=
  ⟨⟨rfl, by decide, rfl, nofun⟩, fun _ => ⟨rfl, by simp [State.powerOn], rfl, fun h => absurd rfl h⟩⟩

/-! ### Refusal, completion and the advance -/

/-- Settles O11: of the three cases of State.enter the refusal is the first, and BRK is official. -/
theorem refusePolicyRefusesExactlyUnofficial : Obligations.RefusePolicyRefusesExactlyUnofficial := by
  refine fun i s => ⟨fun hcls hpol => ?refuses, fun r hexec => ?only⟩
  case refuses =>
    have hi : i ≠ .brk := by
      rintro rfl
      exact hcls rfl
    rw [exec_of_ne_brk hi, State.enter, if_pos ⟨hcls, hpol⟩, head_encode]
  case only =>
    by_cases hi : i = .brk
    · subst hi
      cases hexec
    · rw [exec_of_ne_brk hi] at hexec
      obtain ⟨hcls, hpol, -⟩ | ⟨-, -, henter⟩ | henter := s.enter_cases i (handlerFor i.entry (operandOf i))
      · exact ⟨hcls, hpol⟩
      · rw [henter] at hexec
        cases hexec
      · rw [henter] at hexec
        cases hexec

/-- Settles O12: neither the refusal nor the strict fault applies, so that the instruction halts or runs its handler. -/
theorem everyInstructionCompletes : Obligations.EveryInstructionCompletes := by
  intro i s hpol hstrict
  by_cases hi : i = .brk
  · subst hi
    exact ⟨s.halt, rfl, rfl, rfl, fun hne => absurd rfl hne⟩
  · have henter : exec i s = .next (s.finish i.entry (handlerFor i.entry (operandOf i) s)) := by
      rw [exec_of_ne_brk hi]
      by_cases hoff : i.entry.cls = .official
      · exact s.enter_official hoff _
      · have himpl := hpol.resolve_left hoff
        exact hstrict.elim (fun hmapped => s.enter_mapped hmapped himpl _) fun hoff => s.enter_lenient hoff himpl _
    obtain ⟨hrun, hrec, hcfg, hcost⟩ := finish_handlerFor_control i s
    exact ⟨_, henter, hrec, hcfg, fun _ => ⟨hrun, hcost⟩⟩

/-- Only the handler of a control transfer writes PC (R137, R143). -/
theorem handlerFor_done {i : Instr} (h : i.entry.mnemonic ∉ transfers) (s : State) :
    ∃ t, handlerFor i.entry (operandOf i) s = .done t := by
  cases i
  case jmpAbs | jmpInd | jsrAbs | rts | rti | bplRel | bmiRel | bvcRel | bvsRel | bccRel | bcsRel | bneRel | beqRel =>
    exact absurd (by simp only [Instr.entry]; decide) h
  all_goals exact ⟨_, rfl⟩

/-- Settles O13: such an instruction ends with an Effect.done, and only the strict fault puts out no cost. -/
theorem nonTransfersAdvanceByLength : Obligations.NonTransfersAdvanceByLength := by
  intro i s t hmn hexec hcost
  obtain ⟨rfl, rfl⟩ | ⟨-, -, rfl⟩ | ⟨-, rfl⟩ := exec_next_cases hexec
  · exact absurd rfl hcost
  · exact absurd rfl hcost
  · obtain ⟨u, hdone⟩ := handlerFor_done hmn s
    obtain ⟨hlen, -⟩ := entry_len_le i
    rw [hdone, State.finish_done, length_encode]
    simp only [nextPc_none]
    obtain ⟨n, hn⟩ : ∃ n, i.entry.len = n + 1 := ⟨i.entry.len - 1, (Nat.sub_add_cancel hlen).symm⟩
    rw [hn, Nat.add_sub_cancel]
    bv_omega

end Sys2Proof.Machine
end

section
/-! SUPPORT. The write lists (R30, R38). One lemma says for every handler which updates of the state it is made of;
that a register or memory is left alone by the mnemonics not listed for it are instances. For P the same is said flag
by flag, from the flags that each computation writes. -/

namespace Sys2Proof.Machine

open Sys2Proof.Claims

/-! ### Registers and memory -/

section
variable {α : Type} {field : State → α} {s : State} {o : Operand}
  (hread : ∀ (u : State) (addr : Word), field (u.afterRead addr) = field u)
include hread

theorem State.afterEa_keeps : field (s.afterEa o) = field s := by
  cases o with
  | indx a => exact (hread _ _).trans (hread _ _)
  | indy a => exact (hread _ _).trans (hread _ _)
  | _ => rfl

theorem State.afterOperand_keeps : field (s.afterOperand o) = field s := by
  cases o with
  | imm d => rfl
  | _ => exact (hread _ _).trans (State.afterEa_keeps hread)

theorem State.withEa_keeps {k : Word → State → Effect} (hk : ∀ ea u, field (k ea u).state = field u) :
    field (s.withEa o k).state = field s := by
  unfold State.withEa
  split
  · rfl
  · exact (hk _ _).trans (State.afterEa_keeps hread)

theorem State.withM_keeps {k : Byte → State → Effect} (hk : ∀ m u, field (k m u).state = field u) :
    field (s.withM o k).state = field s := by
  unfold State.withM State.withEa
  split
  · rfl
  · exact (hk _ _).trans (State.afterOperand_keeps hread)

theorem State.storing_keeps (hwrite : ∀ (u : State) (addr : Word) (v : Byte), field (u.write addr v) = field u)
    (v : Byte) : field (s.storing o v).state = field s :=
  State.withEa_keeps hread fun _ _ => hwrite _ _ _

theorem State.modifying_keeps (hwrite : ∀ (u : State) (addr : Word) (v : Byte), field (u.write addr v) = field u)
    {r : Byte → Byte} {k : Byte → State → State} (hk : ∀ v u, field (k v u) = field u) :
    field (s.modifying o r k).state = field s :=
  State.withM_keeps hread fun _ _ => (hk _ _).trans (hwrite _ _ _)

end

theorem branch_state (cond : Bool) (d : Byte) (s : State) : (branch cond d s).state = s := by
  cases cond <;> rfl

/-- A handler is made of bus reads, writes of P, and the writes of A, X, Y, SP and memory that R30 and the store lists
allow its mnemonic: what none of these changes, the handler leaves. -/
theorem handlerFor_keeps {α : Type} (field : State → α) (e : Entry) (o : Operand) (s : State)
    (hread : ∀ (u : State) (addr : Word), field (u.afterRead addr) = field u)
    (hp : ∀ (u : State) (v : Byte), field (u.setP v) = field u)
    (ha : e.mnemonic ∈ aWriters → ∀ (u : State) (v : Byte), field (u.setA v) = field u)
    (hx : e.mnemonic ∈ xWriters → ∀ (u : State) (v : Byte), field (u.setX v) = field u)
    (hy : e.mnemonic ∈ yWriters → ∀ (u : State) (v : Byte), field (u.setY v) = field u)
    (hsp : e.mnemonic ∈ spWriters → ∀ (u : State) (v : Byte), field (u.setSp v) = field u)
    (hmem : e.mnemonic ∈ memWriters → ∀ (u : State) (addr : Word) (v : Byte), field (u.write addr v) = field u) :
    field (handlerFor e o s).state = field s := by
  unfold handlerFor
  generalize e.mnemonic = mnemonic at *
  have withEa {k : Word → State → Effect} (hk : ∀ ea u, field (k ea u).state = field u) :
      field (s.withEa o k).state = field s := State.withEa_keeps hread hk
  have withM {k : Byte → State → Effect} (hk : ∀ m u, field (k m u).state = field u) :
      field (s.withM o k).state = field s := State.withM_keeps hread hk
  cases mnemonic
  case lda | and | ora | eor | xaa | adc | sbc | usbc | anc | alr | arr =>
    exact withM fun _ _ => (hp _ _).trans (ha (by decide) _ _)
  case ldx | sbx => exact withM fun _ _ => (hp _ _).trans (hx (by decide) _ _)
  case ldy => exact withM fun _ _ => (hp _ _).trans (hy (by decide) _ _)
  case lax | lxa =>
    exact withM fun _ _ => ((hp _ _).trans (hx (by decide) _ _)).trans (ha (by decide) _ _)
  case las =>
    exact withM fun _ _ =>
      (((hp _ _).trans (hsp (by decide) _ _)).trans (hx (by decide) _ _)).trans (ha (by decide) _ _)
  case cmp | cpx | cpy | bit => exact withM fun _ _ => hp _ _
  case sta | stx | sty | sax | sha | shx | shy => exact State.storing_keeps hread (hmem (by decide)) _
  case tas => exact withEa fun _ _ => (hmem (by decide) _ _ _).trans (hsp (by decide) _ _)
  case inc | dec | dcp => exact State.modifying_keeps hread (hmem (by decide)) fun _ _ => hp _ _
  case slo | rla | sre | rra =>
    exact State.modifying_keeps hread (hmem (by decide)) fun _ _ =>
      ((hp _ _).trans (ha (by decide) _ _)).trans (hp _ _)
  case isb =>
    exact State.modifying_keeps hread (hmem (by decide)) fun _ _ => (hp _ _).trans (ha (by decide) _ _)
  case asl | lsr | rol | ror =>
    split
    · exact (hp _ _).trans (ha (by decide) _ _)
    · exact State.modifying_keeps hread (hmem (by decide)) fun _ _ => hp _ _
  case txa | tya => exact (hp _ _).trans (ha (by decide) _ _)
  case tax | tsx | inx | dex => exact (hp _ _).trans (hx (by decide) _ _)
  case tay | iny | dey => exact (hp _ _).trans (hy (by decide) _ _)
  case txs => exact hsp (by decide) _ _
  case clc | sec | cli | sei | cld | sed | clv => exact hp _ _
  case pha | php => exact (hsp (by decide) _ _).trans (hmem (by decide) _ _ _)
  case pla =>
    exact ((hp _ _).trans (ha (by decide) _ _)).trans ((hread _ _).trans (hsp (by decide) _ _))
  case plp => exact (hp _ _).trans ((hread _ _).trans (hsp (by decide) _ _))
  case rts =>
    exact ((hread _ _).trans (hsp (by decide) _ _)).trans ((hread _ _).trans (hsp (by decide) _ _))
  case rti =>
    exact (((hread _ _).trans (hsp (by decide) _ _)).trans ((hread _ _).trans (hsp (by decide) _ _))).trans
      ((hp _ _).trans ((hread _ _).trans (hsp (by decide) _ _)))
  case jsr =>
    exact withEa fun _ _ =>
      ((hsp (by decide) _ _).trans (hmem (by decide) _ _ _)).trans
        ((hsp (by decide) _ _).trans (hmem (by decide) _ _ _))
  case jmp => split <;> [exact (hread _ _).trans (hread _ _); exact withEa fun _ _ => rfl]
  case nop => split <;> [rfl; exact withM fun _ _ => rfl]
  case bpl | bmi | bvc | bvs | bcc | bcs | bne | beq => exact congrArg field (branch_state _ _ s)
  case jam | brk => rfl

/-- What neither the halt, the strict fault nor the end of EXECUTE changes, exec leaves as the handler leaves it. -/
theorem exec_keeps {α : Type} {field : State → α} {i : Instr} {s t : State} (hexec : exec i s = .next t)
    (hcontrol : ∀ (u : State) (pc : Word) (run : RunState) (faultRec : Option FaultRecord) (cost : Option Nat),
      field { u with pc := pc, run := run, faultRec := faultRec, cost := cost } = field u)
    (hhandler : field (handlerFor i.entry (operandOf i) s).state = field s) : field t = field s := by
  obtain ⟨-, rfl⟩ | ⟨-, -, rfl⟩ | ⟨-, rfl⟩ := exec_next_cases hexec
  · exact hcontrol s ..
  · exact hcontrol s ..
  · rw [← hhandler]
    cases handlerFor i.entry (operandOf i) s with
    | done u => exact hcontrol u ..
    | jump w u => exact hcontrol u ..
    | raise r u => exact hcontrol u ..

/-- Settles O50: each register is a field that no other update of a handler changes. -/
theorem onlyListedInstructionsWriteRegisters : Obligations.OnlyListedInstructionsWriteRegisters := by
  intro i s t hexec
  refine ⟨fun hnot => ?a, fun hnot => ?x, fun hnot => ?y, fun hnot => ?sp⟩
  case a =>
    exact exec_keeps (field := State.a) hexec (fun _ _ _ _ _ => rfl) (handlerFor_keeps _ _ _ _ (fun _ _ => rfl)
      (fun _ _ => rfl) (fun h => absurd h hnot) (fun _ _ _ => rfl) (fun _ _ _ => rfl) (fun _ _ _ => rfl)
      fun _ _ _ _ => rfl)
  case x =>
    exact exec_keeps (field := State.x) hexec (fun _ _ _ _ _ => rfl) (handlerFor_keeps _ _ _ _ (fun _ _ => rfl)
      (fun _ _ => rfl) (fun _ _ _ => rfl) (fun h => absurd h hnot) (fun _ _ _ => rfl) (fun _ _ _ => rfl)
      fun _ _ _ _ => rfl)
  case y =>
    exact exec_keeps (field := State.y) hexec (fun _ _ _ _ _ => rfl) (handlerFor_keeps _ _ _ _ (fun _ _ => rfl)
      (fun _ _ => rfl) (fun _ _ _ => rfl) (fun _ _ _ => rfl) (fun h => absurd h hnot) (fun _ _ _ => rfl)
      fun _ _ _ _ => rfl)
  case sp =>
    exact exec_keeps (field := State.sp) hexec (fun _ _ _ _ _ => rfl) (handlerFor_keeps _ _ _ _ (fun _ _ => rfl)
      (fun _ _ => rfl) (fun _ _ _ => rfl) (fun _ _ _ => rfl) (fun _ _ _ => rfl) (fun h => absurd h hnot)
      fun _ _ _ _ => rfl)

/-- Settles O51: memory is such a field, and the byte held at an address depends on it and the configuration alone. -/
theorem onlyStoringInstructionsWriteMemory : Obligations.OnlyStoringInstructionsWriteMemory := by
  intro i s t hexec hnot
  have hmem : t.mem = s.mem :=
    exec_keeps (field := State.mem) hexec (fun _ _ _ _ _ => rfl) (handlerFor_keeps _ _ _ _ (fun _ _ => rfl)
      (fun _ _ => rfl) (fun _ _ _ => rfl) (fun _ _ _ => rfl) (fun _ _ _ => rfl) (fun _ _ _ => rfl)
      fun h => absurd h hnot)
  obtain ⟨hcfg, -⟩ := exec_accounted hexec
  exact ⟨hmem, State.peek_congr hmem hcfg⟩

/-! ### Flags -/

/-- From P = p to P = q no flag has changed but those that R38 lists the mnemonic for. -/
def KeepsUnlistedFlags (m : Mnemonic) (p q : Byte) : Prop := ∀ f, m ∉ flagWriters f → getFlag f q = getFlag f p

theorem keepsUnlisted_of_onlyFlags {fs : List Flag} {m : Mnemonic} {p q : Byte}
    (hlisted : ∀ f ∈ fs, m ∈ flagWriters f) (h : OnlyFlags fs p q) : KeepsUnlistedFlags m p q :=
  fun f hnot => h f fun hf => hnot (hlisted f hf)

theorem keepsUnlisted_of_all {m : Mnemonic} {p q : Byte} (hlisted : ∀ f, m ∈ flagWriters f) :
    KeepsUnlistedFlags m p q :=
  fun f hnot => absurd (hlisted f) hnot

theorem keepsUnlisted_refl (m : Mnemonic) (p : Byte) : KeepsUnlistedFlags m p p := fun _ _ => rfl

section
variable {m : Mnemonic} {s : State} {o : Operand}

theorem keepsUnlisted_withEa {k : Word → State → Effect} (hk : ∀ ea u, (k ea u).state.p = u.p) :
    KeepsUnlistedFlags m s.p (s.withEa o k).state.p := by
  have hp : (s.withEa o k).state.p = s.p := State.withEa_keeps (field := State.p) (fun _ _ => rfl) hk
  rw [hp]
  exact keepsUnlisted_refl m s.p

theorem keepsUnlisted_storing (v : Byte) : KeepsUnlistedFlags m s.p (s.storing o v).state.p :=
  keepsUnlisted_withEa fun _ _ => rfl

variable {fs : List Flag} (hlisted : ∀ f ∈ fs, m ∈ flagWriters f)
include hlisted

theorem keepsUnlisted_withM {k : Byte → State → Effect} (hk : ∀ v u, OnlyFlags fs u.p (k v u).state.p) :
    KeepsUnlistedFlags m s.p (s.withM o k).state.p := by
  unfold State.withM State.withEa
  split
  · exact keepsUnlisted_refl m s.p
  · rw [← State.afterOperand_p s o]
    exact keepsUnlisted_of_onlyFlags hlisted (hk _ _)

/-- The continuation may take P from the state before the accesses, which is P after them. -/
theorem keepsUnlisted_modifying {r : Byte → Byte} {k : Byte → State → State}
    (hk : ∀ v u, u.p = s.p → OnlyFlags fs u.p (k v u).p) :
    KeepsUnlistedFlags m s.p (s.modifying o r k).state.p := by
  unfold State.modifying State.withM State.withEa
  split
  · exact keepsUnlisted_refl m s.p
  · have hp := State.afterOperand_p s o
    rw [← hp]
    exact keepsUnlisted_of_onlyFlags hlisted (hk _ _ hp)

end

theorem onlyFlags_adcCore (a m p : Byte) : OnlyFlags [.c, .v, .n, .z] p (adcCore a m p).2 := by
  obtain ⟨-, -, -, -, honly⟩ := added_adcCore a m p
  exact honly

theorem onlyFlags_cmpCore (reg m p : Byte) : OnlyFlags [.c, .z, .n] p (cmpCore reg m p) := by
  obtain ⟨-, -, -, honly⟩ := compared_cmpCore reg m p
  exact honly

theorem onlyFlags_shiftCore (k : Shift) (v p : Byte) : OnlyFlags [.c, .n, .z] p (Shift.core k v p).2 := by
  obtain ⟨-, -, honly⟩ := shiftFlags_core k v p
  exact honly

/-- SLO, RLA and SRE write the flags of their shift, then N and Z again from the new A. -/
theorem onlyFlags_shiftComposite (k : Shift) (v w p : Byte) :
    OnlyFlags [.c, .n, .z] p (setNZ w (Shift.core k v p).2) := by
  obtain ⟨-, -, honly⟩ := flags_setNZ_shiftCore k v w p
  exact honly

theorem onlyFlags_ancCore (a m p : Byte) : OnlyFlags [.n, .z, .c] p (ancCore a m p).2 :=
  onlyFlags_trans (onlyFlags_setNZ _ _) (onlyFlags_setFlag .c _ _)

theorem onlyFlags_arrCore (a m p : Byte) : OnlyFlags [.n, .z, .c, .v] p (arrCore a m p).2 :=
  onlyFlags_trans (onlyFlags_trans (onlyFlags_setNZ _ _) (onlyFlags_setFlag .c _ _)) (onlyFlags_setFlag .v _ _)

theorem onlyFlags_sbxCore (a x m p : Byte) : OnlyFlags [.c, .n, .z] p (sbxCore a x m p).2 :=
  onlyFlags_trans (onlyFlags_setFlag .c _ _) (onlyFlags_setNZ _ _)

section
variable {m : Mnemonic} {s : State} {o : Operand} {core : Byte → Byte → Byte × Byte} {k : Shift}
  (hcore : core = Shift.core k) (hlisted : ∀ f ∈ [Flag.c, .n, .z], m ∈ flagWriters f)
include hcore hlisted

theorem keepsUnlisted_handleShiftA : KeepsUnlistedFlags m s.p (handleShiftA core s).state.p :=
  hcore ▸ keepsUnlisted_of_onlyFlags hlisted (onlyFlags_shiftCore k s.a s.p)

theorem keepsUnlisted_handleShiftM : KeepsUnlistedFlags m s.p (handleShiftM core o s).state.p :=
  hcore ▸ keepsUnlisted_modifying hlisted fun v _ hu => hu ▸ onlyFlags_shiftCore k v s.p

theorem keepsUnlisted_shiftComposite (combine : Byte → Byte → Byte) :
    KeepsUnlistedFlags m s.p (s.modifying o (fun v => (core v s.p).1) fun v t =>
      ((t.setP (core v s.p).2).setA (combine s.a (core v s.p).1)).setNZ (combine s.a (core v s.p).1)).state.p := by
  subst hcore
  exact keepsUnlisted_modifying hlisted fun v _ hu => hu ▸ onlyFlags_shiftComposite k v _ s.p

end

/-- Every handler leaves the flags that R38 does not list its mnemonic for. -/
theorem handlerFor_keepsUnlistedFlags (e : Entry) (o : Operand) (s : State) :
    KeepsUnlistedFlags e.mnemonic s.p (handlerFor e o s).state.p := by
  unfold handlerFor
  cases e.mnemonic
  case lda | ldx | ldy | lax | and | ora | eor | xaa | lxa | las =>
    exact keepsUnlisted_withM (by decide) fun _ _ => onlyFlags_setNZ _ _
  case inc | dec => exact keepsUnlisted_modifying (by decide) fun _ _ _ => onlyFlags_setNZ _ _
  case adc | sbc | usbc => exact keepsUnlisted_withM (by decide) fun _ _ => onlyFlags_adcCore _ _ _
  case cmp | cpx | cpy => exact keepsUnlisted_withM (by decide) fun _ _ => onlyFlags_cmpCore _ _ _
  case bit => exact keepsUnlisted_withM (by decide) fun _ _ => onlyFlags_bitCore _ _ _
  case anc => exact keepsUnlisted_withM (by decide) fun _ _ => onlyFlags_ancCore _ _ _
  case alr => exact keepsUnlisted_withM (by decide) fun _ _ => onlyFlags_shiftCore lsr _ _
  case arr => exact keepsUnlisted_withM (by decide) fun _ _ => onlyFlags_arrCore _ _ _
  case sbx => exact keepsUnlisted_withM (by decide) fun _ _ => onlyFlags_sbxCore _ _ _ _
  case isb => exact keepsUnlisted_modifying (by decide) fun _ _ _ => onlyFlags_adcCore _ _ _
  case dcp => exact keepsUnlisted_modifying (by decide) fun _ _ _ => onlyFlags_cmpCore _ _ _
  case slo => exact keepsUnlisted_shiftComposite aslCore_eq (by decide) (· ||| ·)
  case rla => exact keepsUnlisted_shiftComposite rolCore_eq (by decide) (· &&& ·)
  case sre => exact keepsUnlisted_shiftComposite lsrCore_eq (by decide) (· ^^^ ·)
  case rra =>
    refine keepsUnlisted_modifying (fs := [.c, .n, .z] ++ [.c, .v, .n, .z]) (by decide) fun v u hu => ?_
    rw [hu]
    exact onlyFlags_trans (onlyFlags_shiftCore ror v s.p) (onlyFlags_adcCore _ _ _)
  case asl =>
    split
    · exact keepsUnlisted_handleShiftA aslCore_eq (by decide)
    · exact keepsUnlisted_handleShiftM aslCore_eq (by decide)
  case lsr =>
    split
    · exact keepsUnlisted_handleShiftA lsrCore_eq (by decide)
    · exact keepsUnlisted_handleShiftM lsrCore_eq (by decide)
  case rol =>
    split
    · exact keepsUnlisted_handleShiftA rolCore_eq (by decide)
    · exact keepsUnlisted_handleShiftM rolCore_eq (by decide)
  case ror =>
    split
    · exact keepsUnlisted_handleShiftA rorCore_eq (by decide)
    · exact keepsUnlisted_handleShiftM rorCore_eq (by decide)
  case tax | tay | txa | tya | tsx | inx | iny | dex | dey | pla =>
    exact keepsUnlisted_of_onlyFlags (by decide) (onlyFlags_setNZ _ s.p)
  case clc | sec | cli | sei | cld | sed | clv =>
    exact keepsUnlisted_of_onlyFlags (by decide) (onlyFlags_setFlag _ _ s.p)
  case plp | rti => exact keepsUnlisted_of_all fun f => by cases f <;> decide
  case sta | stx | sty | sax | sha | shx | shy => exact keepsUnlisted_storing _
  case tas | jsr => exact keepsUnlisted_withEa fun _ _ => rfl
  case jmp => split <;> [exact keepsUnlisted_refl _ s.p; exact keepsUnlisted_withEa fun _ _ => rfl]
  case nop =>
    split
    · exact keepsUnlisted_refl _ s.p
    · exact keepsUnlisted_withM (fs := []) nofun fun _ _ _ _ => rfl
  case txs | pha | php | rts | jam | brk => exact keepsUnlisted_refl _ s.p
  case bpl | bmi | bvc | bvs | bcc | bcs | bne | beq =>
    exact (branch_state _ _ s).symm ▸ keepsUnlisted_refl _ s.p

/-- Settles O49: P after the handler is P after exec. -/
theorem onlyListedInstructionsWriteFlags : Obligations.OnlyListedInstructionsWriteFlags := by
  intro i s t f hexec hnot
  exact exec_keeps (field := fun u => getFlag f u.p) hexec (fun _ _ _ _ _ => rfl)
    (handlerFor_keepsUnlistedFlags i.entry (operandOf i) s f hnot)

end Sys2Proof.Machine
end

section
/-! SUPPORT. The bus, the stack and the resolver as the claims state them (R66 to R72, R111 to R119), and the adder's V
and C as overflow of integer sums (R181). -/

namespace Sys2Proof.Machine

open Sys2Proof.Claims

/-! ### The bus -/

theorem routeOf_ne_peripheral_of_peek {s : State} {addr : Word} {b : Byte} (h : s.peek addr = some b) :
    routeOf s.cfg.memMap addr ≠ .peripheral := by
  intro hroute
  rw [State.peek, hroute] at h
  cases h

/-- A read outside the peripheral window changes nothing but the bus record. -/
theorem State.afterRead_of_backed {s : State} {addr : Word} (h : routeOf s.cfg.memMap addr ≠ .peripheral) :
    s.afterRead addr = { s with bus := s.bus ++ [⟨.read, addr, s.read addr⟩] } := by
  have hframe : s.afterRead addr = { s with bus := (s.afterRead addr).bus, draws := (s.afterRead addr).draws } := rfl
  rw [hframe, s.afterRead_draws_of_backed h, State.afterRead_bus]

theorem State.afterRead_of_peek {s : State} {addr : Word} {b : Byte} (h : s.peek addr = some b) :
    s.afterRead addr = { s with bus := s.bus ++ [⟨.read, addr, b⟩] } := by
  rw [State.afterRead_of_backed (routeOf_ne_peripheral_of_peek h), s.read_of_peek h]

/-- A write of a backed address, by the places of the two addresses. -/
theorem State.peek_write_of_ram {s : State} {x : Word} {cell : Nat} (hx : routeOf s.cfg.memMap x = .ram cell)
    (y : Word) (v : Byte) : (s.write x v).peek y =
      if routeOf s.cfg.memMap y = .ram cell then some v else s.peek y := by
  split
  case isTrue hy =>
    have hheld : ∀ z, routeOf s.cfg.memMap z = .ram cell → (s.write x v).peek z = some v := fun z hz => by
      rw [State.peek_ram (s.write x v) (k := cell) (by simpa using hz), State.write_mem_ram s x v cell hx]
      simp
    exact hheld y hy
  case isFalse hy => exact s.peek_write_other v (hx ▸ hy)

/-! The windows of R68. -/

theorem routeOf_nes_ram {x : Word} (h : x < 0x2000) : routeOf .nesStore x = .ram (x &&& 0x07FF).toNat := if_pos h

theorem routeOf_nes_peripheral {x : Word} (h : 0x2000 ≤ x) (h' : x < 0x4000) :
    routeOf .nesStore x = .peripheral := by
  rw [routeOf, if_neg (BitVec.not_lt.mpr h), if_pos h']

theorem routeOf_nes_unbacked {x : Word} (h : 0x4000 ≤ x) : routeOf .nesStore x = .unbacked := by
  rw [routeOf, if_neg (by bv_omega), if_neg (by bv_omega)]

/-- Under nes_store a write outside the RAM window changes no memory (D36). -/
theorem State.write_mem_nes {s : State} (hmap : s.cfg.memMap = .nesStore) {x : Word} (h : 0x2000 ≤ x) (v : Byte) :
    (s.write x v).mem = s.mem := by
  rw [State.write_mem, hmap]
  by_cases hx : x < 0x4000
  · rw [routeOf_nes_peripheral h hx]
  · rw [routeOf_nes_unbacked (BitVec.not_lt.mp hx)]

/-- Settles O56: both maps by the places of the two addresses, and the windows of nes_store one by one. -/
theorem busReadsLastWrittenByte : Obligations.BusReadsLastWrittenByte := by
  refine fun s x y v => ⟨fun b hb => ⟨s.read_of_peek hb, State.afterRead_of_peek hb⟩, rfl, fun hmap => ?flat,
    fun hmap => ⟨fun hx hy => ?ram, fun hy hy' => ?peripheral, fun hy => ?unbacked, fun hx => ?discarded⟩⟩
  case flat =>
    have hroute (z : Word) : routeOf s.cfg.memMap z = .ram z.toNat := by rw [hmap]; rfl
    simp only [State.peek_write_of_ram (hroute x), hroute y, Route.ram.injEq, BitVec.toNat_inj]
  case ram =>
    have hroute {z : Word} (hz : z < 0x2000) : routeOf s.cfg.memMap z = .ram (z &&& 0x07FF).toNat := by
      rw [hmap, routeOf_nes_ram hz]
    simp only [State.peek_write_of_ram (hroute hx), hroute hy, Route.ram.injEq, BitVec.toNat_inj]
  case peripheral =>
    have hroute : routeOf s.cfg.memMap y = .peripheral := by rw [hmap, routeOf_nes_peripheral hy hy']
    have hread : s.read y = Config.periphRead s.draws := by rw [State.read, hroute]
    refine ⟨hread, ?_⟩
    rw [State.afterRead, hread, if_pos hroute]
  case unbacked => rw [State.peek, hmap, routeOf_nes_unbacked hy]
  case discarded => exact State.write_mem_nes hmap hx v

/-! ### The stack -/

/-- Settles O29: the two operations as they are defined, a pop's read being one of a backed address. -/
theorem pushAndPopAsStated : Obligations.PushAndPopAsStated :=
  fun s _ => ⟨rfl, rfl, s.afterPop_eq⟩

/-- Settles O30: the pop reads the address of the push, because SP - 1 + 1 is SP modulo 256. -/
theorem popReturnsWhatPushWrote : Obligations.PopReturnsWhatPushWrote := by
  intro s v
  have hsp : (s.push v).sp + 1 = s.sp := by
    rw [State.push_sp]
    exact BitVec.sub_add_cancel s.sp 1
  refine ⟨?byte, ?pointer, fun addr h => s.peek_push_other v h⟩
  case byte =>
    rw [State.popVal, hsp]
    exact State.read_of_peek _ (s.peek_push_same v)
  case pointer => rw [State.afterPop_sp, hsp]

/-! ### The resolver -/

theorem word16_zero (d : Byte) : word16 0x00 d = zext16 d := by
  revert d
  decide

/-- A pointer within page 0, from the bytes held at its two addresses (R118, R119). -/
theorem State.readZpPtr_of_peek {s : State} {ptr lo hi : Byte} (hlo : s.peek (zext16 ptr) = some lo)
    (hhi : s.peek (zext16 (ptr + 1)) = some hi) : s.readZpPtr ptr = word16 hi lo := by
  rw [State.readZpPtr_eq, s.read_of_peek hlo, s.read_of_peek hhi]

/-- Settles O14: zero extension puts a high byte of 0 before an address of page 0, and a byte held is the byte read. -/
theorem effectiveAddressesFollowModes : Obligations.EffectiveAddressesFollowModes := by
  intro s a w
  simp only [word16_zero]
  refine ⟨rfl, rfl, rfl, rfl, rfl, rfl, rfl, fun _ _ hlo hhi => State.readZpPtr_of_peek hlo hhi,
    fun _ _ hlo hhi => ?indy, rfl, fun o m hmode hm => ?operand⟩
  case indy => rw [State.ea, State.readZpPtr_of_peek hlo hhi]
  case operand =>
    have hread := s.read_of_peek hm
    rw [State.operandVal_eq]
    cases o with
    | imm d => exact absurd rfl hmode
    | _ => exact hread

/-! ### The adder -/

theorem getLsbD_seven_eq (b : Byte) : b.getLsbD 7 = decide (128 ≤ b.toNat) := by
  rw [← BitVec.msb_eq_decide b]
  rfl

theorem toInt_byte (b : Byte) : b.toInt = b.toNat - if 128 ≤ b.toNat then 256 else 0 := by
  rw [BitVec.toInt_eq_toNat_cond]
  split <;> split <;> omega

/-- R181's V is overflow of the signed sum: the operands' signs agree and the result's differs from them exactly when
the integer sum lies outside the signed bytes. -/
theorem signedOverflow_iff {a m r : Byte} {c : Nat} (hc : c ≤ 1) (hr : r.toNat = (a.toNat + m.toNat + c) % 256) :
    (a.getLsbD 7 == m.getLsbD 7 && r.getLsbD 7 != a.getLsbD 7) = true ↔ r.toInt ≠ a.toInt + m.toInt + c := by
  simp only [getLsbD_seven_eq, Bool.and_eq_true, beq_iff_eq, bne_iff_ne, ne_eq, decide_eq_decide, toInt_byte]
  have ha := a.isLt
  have hm := m.isLt
  split <;> split <;> split <;> omega

/-- Settles O24: both flags by the carry in as a number and the result as the sum modulo 256. -/
theorem adderOverflowIsSignedOverflow : Obligations.AdderOverflowIsSignedOverflow := by
  intro a m p
  obtain ⟨hresult, hcarry, hoverflow, -, -⟩ := added_adcCore a m p
  have hin : carryNat p ≤ 1 := by
    unfold carryNat
    split <;> decide
  have hint : (if getFlag .c p then 1 else 0 : Int) = carryNat p := by
    unfold carryNat
    split <;> rfl
  have hnat : (adcCore a m p).1.toNat = (a.toNat + m.toNat + carryNat p) % 256 := by
    rw [hresult]
    exact BitVec.toNat_ofNat ..
  have hsum : a.toNat + m.toNat + (if getFlag .c p then 1 else 0) = a.toNat + m.toNat + carryNat p := rfl
  dsimp only
  rw [hint, hoverflow, hcarry, hsum]
  refine ⟨signedOverflow_iff hin hnat, ?unsigned⟩
  case unsigned =>
    rw [decide_eq_true_iff, hnat]
    omega

end Sys2Proof.Machine
end

section
/-! SUPPORT. The fetch of an instruction whose bytes are held at PC (R132, R136), and what follows for a step: the halt
of BRK, the unmapped values, JMP to itself, and RTS after JSR; and the opcode table as the spec lists it. -/

namespace Sys2Proof.Machine

open Sys2Proof.Claims

/-! ### The opcode table -/

/-- Settles O1: each word is decoded by computation. -/
theorem decodeReadsSpecWords : Obligations.DecodeReadsSpecWords := by
  unfold Obligations.DecodeReadsSpecWords
  decide

/-- Settles O4: the classes over the 256 values, the lengths over the constructors. -/
theorem opcodeClassesAsListed : Obligations.OpcodeClassesAsListed := by
  refine ⟨by decide, by decide +kernel, by decide +kernel, by decide +kernel, fun i => ?lengths⟩
  case lengths =>
    obtain ⟨hpos, hle⟩ := entry_len_le i
    exact ⟨hpos, hle, length_encode i⟩

/-- Settles O5: the rule over the 256 values. -/
theorem costsFollowTimingRule : Obligations.CostsFollowTimingRule := by
  unfold Obligations.CostsFollowTimingRule
  decide

/-! ### The fetch -/

/-- The bytes of instruction i are held at PC and the addresses after it, modulo 65536. -/
def HoldsAtPc (s : State) (i : Instr) : Prop :=
  ∀ k, k < (encode i).length → s.peek (s.pc + BitVec.ofNat 16 k) = some ((encode i).getD k 0)

/-- s with accesses added to the bus record. -/
def State.recorded (s : State) (acc : List BusEvent) : State := { s with bus := s.bus ++ acc }

theorem State.afterRead_recorded {s : State} {acc : List BusEvent} {addr : Word} {b : Byte}
    (h : s.peek addr = some b) : (s.recorded acc).afterRead addr = s.recorded (acc ++ [⟨.read, addr, b⟩]) := by
  have hread : (s.recorded acc).afterRead addr =
      { s.recorded acc with bus := (s.recorded acc).bus ++ [⟨.read, addr, b⟩] } :=
    State.afterRead_of_peek (s := s.recorded acc) h
  rw [hread, State.recorded, State.recorded, List.append_assoc]

/-- The accesses of the fetch of instruction i at address pc (R74, R90). -/
def fetchReads (pc : Word) (i : Instr) : List BusEvent :=
  (List.range (encode i).length).map fun k => ⟨.read, pc + BitVec.ofNat 16 k, (encode i).getD k 0⟩

section
variable {s : State} {i : Instr} (h : HoldsAtPc s i)
include h

theorem HoldsAtPc.peek_opcode : s.peek s.pc = some ((encode i).getD 0 0) := by
  obtain ⟨hpos, -⟩ := entry_len_le i
  simpa using h 0 (by rwa [length_encode])

theorem HoldsAtPc.peek_byte1 (hlen : 2 ≤ i.entry.len) : s.peek (s.pc + 1) = some ((encode i).getD 1 0) :=
  h 1 (by rwa [length_encode])

theorem HoldsAtPc.peek_byte2 (hlen : 3 ≤ i.entry.len) : s.peek (s.pc + 2) = some ((encode i).getD 2 0) :=
  h 2 (by rwa [length_encode])

theorem HoldsAtPc.entryOf_read : entryOf (s.read s.pc) = i.entry := by
  rw [s.read_of_peek h.peek_opcode, head_encode, entryOf_opcode]

theorem HoldsAtPc.fetchInstr_eq : s.fetchInstr = i := by
  have hshort {k : Nat} (hk : ¬ k + 1 ≤ i.entry.len) : (encode i).getD k 0 = 0 := by
    rw [List.getD_eq_default]
    rw [length_encode]
    omega
  unfold State.fetchInstr
  rw [← buildInstr_encode i]
  simp only [h.entryOf_read]
  congr 1
  · exact s.read_of_peek h.peek_opcode
  · split
    case isTrue h2 => exact State.read_of_peek _ (by rw [State.peek_afterRead, h.peek_byte1 h2])
    case isFalse h2 => exact (hshort h2).symm
  · split
    case isTrue h3 =>
      rw [if_pos (Nat.le_of_succ_le h3)]
      exact State.read_of_peek _ (by rw [State.peek_afterRead, State.peek_afterRead, h.peek_byte2 h3])
    case isFalse h3 => exact (hshort h3).symm

theorem HoldsAtPc.afterFetch_eq : s.afterFetch = (s.recorded (fetchReads s.pc i)).setPc (s.pc + 1) := by
  have hread1 : s.afterRead s.pc = s.recorded [⟨.read, s.pc, (encode i).getD 0 0⟩] :=
    State.afterRead_of_peek h.peek_opcode
  have hcases : i.entry.len = 1 ∨ i.entry.len = 2 ∨ i.entry.len = 3 := by
    obtain ⟨hpos, hle⟩ := entry_len_le i
    omega
  simp only [State.afterFetch, h.entryOf_read, hread1, fetchReads, length_encode]
  obtain hlen | hlen | hlen := hcases
  · simp only [hlen, Nat.reduceLeDiff, if_false]
    simp [List.range_succ]
  · simp only [hlen, Nat.reduceLeDiff, if_true, if_false, State.afterRead_recorded (h.peek_byte1 (by omega))]
    simp [List.range_succ]
  · simp only [hlen, Nat.reduceLeDiff, if_true, State.afterRead_recorded (h.peek_byte1 (by omega)),
      State.afterRead_recorded (h.peek_byte2 (by omega))]
    simp [List.range_succ]

end

/-- Settles O6: the step begins with an empty bus record and no cost, and its fetch is that of the bytes held. -/
theorem stepRunsDecodedInstruction : Obligations.StepRunsDecodedInstruction := by
  intro s i hrun hbytes
  have h : HoldsAtPc s.beginStep i := hbytes
  rw [step_ready s hrun, h.fetchInstr_eq, h.afterFetch_eq]
  rfl

/-! ### Steps -/

/-- Settles O7: the two run states are the ones that are not READY. -/
theorem stoppedMachineStaysPut : Obligations.StoppedMachineStaysPut := by
  intro s hrun
  refine step_stopped s fun hready => ?_
  rw [hready] at hrun
  exact hrun.elim nofun nofun

/-- Settles O8: BRK is the one byte 0x00, and exec of it is the halt. -/
theorem brkHaltsUnderEveryConfiguration : Obligations.BrkHaltsUnderEveryConfiguration := by
  refine ⟨exec_brk, fun s hrun hpeek => ?step⟩
  case step =>
    have hbytes : HoldsAtPc s .brk := by
      intro k hk
      obtain rfl : k = 0 := Nat.lt_one_iff.mp hk
      exact (congrArg s.peek (BitVec.add_zero s.pc)).trans hpeek
    rw [stepRunsDecodedInstruction s .brk hrun hbytes, exec_brk]
    simp [State.halt, encode]

/-- Settles O9: each of the twelve instructions has length 1, cost 1 and the handler that does nothing. -/
theorem unmappedOpcodesRunFallback : Obligations.UnmappedOpcodesRunFallback := by
  intro l h s hstrict hpol f hf
  have hfallback {i : Instr} (hi : i ≠ .brk) (he : i.entry.len = 1 ∧ i.entry.cycles = 1)
      (hh : handlerFor i.entry (operandOf i) s = .done s) : exec i s = .next { s with cost := some 1 } := by
    rw [exec_of_ne_brk hi, s.enter_lenient hstrict hpol, hh, State.finish_done, nextPc_none, he.1, he.2]
    simp
  fin_cases hf <;> exact ⟨⟨_, rfl⟩, hfallback nofun ⟨rfl, rfl⟩ rfl⟩

/-- Settles O10: of the three cases of State.enter the strict fault is the second. -/
theorem strictDecodeFaultsOnUnmapped : Obligations.StrictDecodeFaultsOnUnmapped := by
  intro s hstrict hpol f hf
  have hfault {i : Instr} (hi : i ≠ .brk) (hc : i.entry.cls = .unmapped) :
      exec i s = .next (s.raiseFault .unmappedOpcode i.entry.opcode (s.pc - 1)) := by
    rw [exec_of_ne_brk hi, State.enter, if_neg (by simp [hpol]), if_pos ⟨hc, hstrict⟩]
  fin_cases hf <;> exact hfault nofun rfl

/-- A step at a JMP to its own address comes back to the state, but for the outputs. -/
theorem step_jumpToSelf {s : State} (hrun : s.run = .ready) (hbytes : HoldsAtPc s (.jmpAbs s.pc)) :
    step s = .next { s with cost := some 3, bus := fetchReads s.pc (.jmpAbs s.pc) } := by
  have hpc : s.pc ≠ s.pc + 1 := by bv_omega
  rw [stepRunsDecodedInstruction s _ hrun hbytes, jmpAbs_runsTo, pcAfterJump, if_neg fun hjump => hpc hjump.2]
  simp [fetchReads, Instr.entry]

/-- Settles O55: the state after the first step meets the same premises, and its outputs are already those of the
next. -/
theorem jumpToSelfIsAFixedPoint : Obligations.JumpToSelfIsAFixedPoint := by
  intro s hrun hop hlow hhigh
  have hbytes : HoldsAtPc s (.jmpAbs s.pc) := by
    intro k hk
    match k, hk with
    | 0, _ => exact (congrArg s.peek (BitVec.add_zero s.pc)).trans hop
    | 1, _ => exact hlow
    | 2, _ => exact hhigh
  exact ⟨_, step_jumpToSelf hrun hbytes, rfl, step_jumpToSelf (s := { s with
    cost := some 3, bus := fetchReads s.pc (.jmpAbs s.pc) }) hrun hbytes⟩

/-- RTS returns to the address after the one whose bytes lie above SP, and takes them from the stack; its advance
after a target equal to pc1 is one of 0 bytes. -/
theorem exec_rts_of_peek {s : State} {ret : Word} (hlow : s.peek (stackAddr (s.sp + 1)) = some (lo8 ret))
    (hhigh : s.peek (stackAddr (s.sp + 2)) = some (hi8 ret)) :
    ∃ u, exec .rts s = .next u ∧ u.pc = ret + 1 ∧ u.sp = s.sp + 2 ∧ u.a = s.a ∧ u.x = s.x ∧ u.y = s.y ∧
      u.p = s.p := by
  obtain ⟨-, hruns⟩ := rtsPopsReturnAddress 0 0 s
  refine ⟨_, hruns, ?pc, rfl, rfl, rfl, rfl, rfl⟩
  case pc =>
    simp only [s.read_of_peek hlow, s.read_of_peek hhigh, word16_hi8_lo8, pcAfterJump]
    split
    case isTrue hjump => exact (BitVec.add_zero s.pc).trans hjump.2.symm
    case isFalse => rfl

/-- JSR leaves the address of its own last byte on the stack, and changes no register but SP and PC (R252). -/
theorem exec_jsr_peek (w : Word) (s : State) :
    ∃ t, exec (.jsrAbs w) s = .next t ∧ t.peek (stackAddr s.sp) = some (hi8 (s.pc + 1)) ∧
      t.peek (stackAddr (s.sp - 1)) = some (lo8 (s.pc + 1)) ∧ t.sp = s.sp - 2 ∧
      t.a = s.a ∧ t.x = s.x ∧ t.y = s.y ∧ t.p = s.p := by
  obtain ⟨hhigh, hlow, -⟩ := s.peek_push_push (hi8 (s.pc + 1)) (lo8 (s.pc + 1))
  exact ⟨_, jsrAbs_runsTo w s, hhigh, hlow, s.push_push_sp (hi8 (s.pc + 1)) (lo8 (s.pc + 1)), rfl, rfl, rfl, rfl⟩

/-- Settles O54: RTS pops the two bytes that JSR has pushed, wherever PC has gone in between. -/
theorem callThenReturnRestores : Obligations.CallThenReturnRestores := by
  intro w q s
  obtain ⟨t, hcall, hhigh, hlow, hsp, hta, htx, hty, htp⟩ := exec_jsr_peek w s
  have hlowAt : t.sp + 1 = s.sp - 1 := by bv_omega
  have hhighAt : t.sp + 2 = s.sp := by bv_omega
  rw [← hlowAt] at hlow
  rw [← hhighAt] at hhigh
  obtain ⟨u, hreturn, hpc, hup, hua, hux, huy, hupp⟩ := exec_rts_of_peek (s := { t with pc := q }) hlow hhigh
  exact ⟨t, u, hcall, hreturn, hpc.trans (BitVec.add_assoc s.pc 1 1), hup.trans hhighAt, hua.trans hta, hux.trans htx,
    huy.trans hty, hupp.trans htp⟩

end Sys2Proof.Machine
end

section
/-! SUPPORT. The host's operations (R340, R342 to R344): the reset reads its vector, which is no peripheral under
either map, and a load's bytes stay in memory but where a later write shares their place. -/

namespace Sys2Proof.Machine

open Sys2Proof.Claims

/-! ### Reset -/

theorem State.read16_of_backed {s : State} {addr : Word} (hhigh : routeOf s.cfg.memMap (addr + 1) ≠ .peripheral) :
    s.read16 addr = word16 (s.read (addr + 1)) (s.read addr) := by
  rw [State.read16, State.read_congr (s := s) (t := s.afterRead addr) rfl rfl hhigh]

theorem State.afterRead16_of_backed {s : State} {addr : Word} (hlow : routeOf s.cfg.memMap addr ≠ .peripheral)
    (hhigh : routeOf s.cfg.memMap (addr + 1) ≠ .peripheral) : s.afterRead16 addr = { s with
      bus := s.bus ++ [⟨.read, addr, s.read addr⟩, ⟨.read, addr + 1, s.read (addr + 1)⟩] } := by
  have hsecond := State.afterRead_of_backed (s := s.afterRead addr) (addr := addr + 1) hhigh
  rw [State.read_congr (s := s) (t := s.afterRead addr) rfl rfl hhigh, State.afterRead_of_backed hlow,
    List.append_assoc] at hsecond
  rw [State.afterRead16, State.afterRead_of_backed hlow, hsecond]
  rfl

theorem routeOf_resetVector_ne_peripheral (map : MemMap) :
    routeOf map 0xFFFC ≠ .peripheral ∧ routeOf map 0xFFFD ≠ .peripheral := by
  cases map <;> decide

/-- Settles O57: the two reads are of addresses outside the peripheral window. -/
theorem resetGivesStatedValues : Obligations.ResetGivesStatedValues := by
  refine ⟨fun s => ?fields, rfl⟩
  case fields =>
    obtain ⟨hlow, hhigh⟩ := routeOf_resetVector_ne_peripheral s.cfg.memMap
    have hpc := State.read16_of_backed (s := { s with bus := [] }) (addr := 0xFFFC) hhigh
    have hafter := State.afterRead16_of_backed (s := { s with bus := [] }) (addr := 0xFFFC) hlow hhigh
    rw [State.hostReset]
    simp only [resetVector, hpc, hafter]
    rfl

theorem hostReset_pc (s : State) : s.hostReset.pc = word16 (s.read 0xFFFD) (s.read 0xFFFC) := by
  obtain ⟨hreset, -⟩ := resetGivesStatedValues
  rw [hreset]

theorem peek_hostReset (s : State) (addr : Word) : s.hostReset.peek addr = s.peek addr :=
  State.peek_congr rfl rfl addr

/-! ### Load -/

/-- The machine after the writes of a load (R342). -/
def State.loaded (s : State) (bytes : List Byte) : State :=
  ({ s with bus := [] }.writeBytes s.cfg.loadAddr bytes).write16 resetVector s.cfg.loadAddr

theorem hostLoad_of_fits {s : State} {bytes : List Byte} (h : s.cfg.loadAddr.toNat + bytes.length ≤ 65536) :
    s.hostLoad bytes = .next (s.loaded bytes) := if_pos h

theorem loaded_frame (s : State) (bytes : List Byte) :
    s.loaded bytes = { s with mem := (s.loaded bytes).mem, bus := (s.loaded bytes).bus } := by
  rw [State.loaded, State.writeBytes_frame]
  rfl

theorem loaded_cfg (s : State) (bytes : List Byte) : (s.loaded bytes).cfg = s.cfg := by
  rw [loaded_frame]

section
variable {s : State} {bytes : List Byte} {addr : Word}

/-- The write of the vector leaves what the byte writes have left at a place that is not the vector's. -/
theorem peek_loaded (hlow : routeOf s.cfg.memMap addr ≠ routeOf s.cfg.memMap 0xFFFC)
    (hhigh : routeOf s.cfg.memMap addr ≠ routeOf s.cfg.memMap 0xFFFD) :
    (s.loaded bytes).peek addr = ({ s with bus := [] }.writeBytes s.cfg.loadAddr bytes).peek addr := by
  rw [State.loaded, State.write16, State.peek_write_other _ _ (by simpa [resetVector] using hhigh),
    State.peek_write_other _ _ (by simpa [resetVector] using hlow)]

theorem peek_loaded_other
    (hother : ∀ k, k < bytes.length →
      routeOf s.cfg.memMap addr ≠ routeOf s.cfg.memMap (s.cfg.loadAddr + BitVec.ofNat 16 k))
    (hlow : routeOf s.cfg.memMap addr ≠ routeOf s.cfg.memMap 0xFFFC)
    (hhigh : routeOf s.cfg.memMap addr ≠ routeOf s.cfg.memMap 0xFFFD) :
    (s.loaded bytes).peek addr = s.peek addr := by
  rw [peek_loaded hlow hhigh, State.peek_writeBytes_other { s with bus := [] } _ _ _ hother]
  rfl

theorem toNat_loadAddr_add (hfits : s.cfg.loadAddr.toNat + bytes.length ≤ 65536) {k : Nat} (hk : k < bytes.length) :
    (s.cfg.loadAddr + BitVec.ofNat 16 k).toNat = s.cfg.loadAddr.toNat + k := by
  rw [BitVec.toNat_add, BitVec.toNat_ofNat]
  omega

/-! The flat map: a place is an address, and no two bytes of a program that fits share one. -/

theorem routeOf_flat_ne {x y : Word} (h : x ≠ y) : routeOf .flat x ≠ routeOf .flat y := by
  simpa [routeOf, BitVec.toNat_inj] using h

theorem hostReset_loaded_pc_flat (hmap : s.cfg.memMap = .flat) : (s.loaded bytes).hostReset.pc = s.cfg.loadAddr := by
  have hcfg : ({ s with bus := [] }.writeBytes s.cfg.loadAddr bytes).cfg.memMap = .flat := by simpa using hmap
  have hhigh : (s.loaded bytes).peek 0xFFFD = some (hi8 s.cfg.loadAddr) :=
    State.peek_write_same _ _ (k := 0xFFFD) (by rw [State.write_cfg, hcfg]; rfl)
  have hlow : (s.loaded bytes).peek 0xFFFC = some (lo8 s.cfg.loadAddr) := by
    rw [State.loaded, State.write16,
      State.peek_write_other _ _ (by rw [State.write_cfg, hcfg]; exact routeOf_flat_ne (by decide))]
    exact State.peek_write_same _ _ (k := 0xFFFC) (by rw [hcfg]; rfl)
  rw [hostReset_pc, State.read_of_peek _ hhigh, State.read_of_peek _ hlow, word16_hi8_lo8]

theorem peek_loaded_byte_flat (hfits : s.cfg.loadAddr.toNat + bytes.length ≤ 65536) (hmap : s.cfg.memMap = .flat)
    {k : Nat} (hk : k < bytes.length) (hlow : s.cfg.loadAddr + BitVec.ofNat 16 k ≠ 0xFFFC)
    (hhigh : s.cfg.loadAddr + BitVec.ofNat 16 k ≠ 0xFFFD) :
    (s.loaded bytes).peek (s.cfg.loadAddr + BitVec.ofNat 16 k) = some (bytes.getD k 0) := by
  have hroute {x y : Word} (hxy : x ≠ y) : routeOf s.cfg.memMap x ≠ routeOf s.cfg.memMap y :=
    hmap ▸ routeOf_flat_ne hxy
  rw [peek_loaded (hroute hlow) (hroute hhigh)]
  refine State.peek_writeBytes { s with bus := [] } _ _ k _ hk (by rw [hmap]; rfl) fun j hkj hj =>
    hroute fun heq => ?_
  have := congrArg BitVec.toNat heq
  rw [toNat_loadAddr_add hfits hk, toNat_loadAddr_add hfits hj] at this
  omega

/-! The nes_store map: the vector has no place, and bytes less than 2048 apart share none in the RAM window. -/

theorem routeOf_nes_eq_ram {x : Word} {cell : Nat} (h : routeOf .nesStore x = .ram cell) :
    cell = x.toNat % 2048 := by
  by_cases hx : x < 0x2000
  · have hmod : (x &&& 0x07FF).toNat = x.toNat % 2048 := by
      rw [BitVec.toNat_and]
      exact Nat.and_two_pow_sub_one_eq_mod x.toNat 11
    rw [routeOf_nes_ram hx, hmod] at h
    cases h
    rfl
  · rw [routeOf, if_neg hx] at h
    split at h <;> cases h

theorem hostReset_loaded_pc_nes (hmap : s.cfg.memMap = .nesStore) : (s.loaded bytes).hostReset.pc = 0x0000 := by
  have hunbacked {x : Word} (hx : 0x4000 ≤ x) : (s.loaded bytes).read x = 0x00 := by
    rw [State.read, loaded_cfg, hmap, routeOf_nes_unbacked hx]
  rw [hostReset_pc, hunbacked (by decide), hunbacked (by decide)]
  rfl

theorem peek_loaded_byte_nes (hfits : s.cfg.loadAddr.toNat + bytes.length ≤ 65536) (hmap : s.cfg.memMap = .nesStore)
    {k : Nat} (hk : k < bytes.length) (hsize : bytes.length ≤ 2048)
    (hram : s.cfg.loadAddr + BitVec.ofNat 16 k < 0x2000) :
    (s.loaded bytes).peek (s.cfg.loadAddr + BitVec.ofNat 16 k) = some (bytes.getD k 0) := by
  have hplace := routeOf_nes_ram hram
  have hcell := routeOf_nes_eq_ram hplace
  have hvector {x : Word} (hx : 0x4000 ≤ x) :
      routeOf s.cfg.memMap (s.cfg.loadAddr + BitVec.ofNat 16 k) ≠ routeOf s.cfg.memMap x := by
    rw [hmap, hplace, routeOf_nes_unbacked hx]
    nofun
  rw [peek_loaded (hvector (by decide)) (hvector (by decide))]
  refine State.peek_writeBytes { s with bus := [] } _ _ k _ hk (by rw [hmap]; exact hplace) fun j hkj hj heq => ?_
  rw [hmap, hplace] at heq
  have hsame := routeOf_nes_eq_ram heq.symm
  rw [hcell, toNat_loadAddr_add hfits hk, toNat_loadAddr_add hfits hj] at hsame
  omega

end

/-- Settles O58: the writes of the load, clause by clause; a reset reads its vector and leaves memory. -/
theorem loadThenResetStartsProgram : Obligations.LoadThenResetStartsProgram := by
  refine fun s bytes => ⟨fun hfits => ?fits, fun hlong => if_neg (Nat.not_le.mpr hlong)⟩
  case fits =>
    refine ⟨s.loaded bytes, hostLoad_of_fits hfits, loaded_frame s bytes, rfl,
      fun addr hother hlow hhigh => peek_loaded_other hother hlow hhigh,
      fun hmap => ⟨hostReset_loaded_pc_flat hmap, fun k hk hlow hhigh => ?flat⟩,
      fun hmap => ⟨hostReset_loaded_pc_nes hmap, fun k hk hsize hram => ?nes⟩⟩
    case flat => rw [peek_hostReset, peek_loaded_byte_flat hfits hmap hk hlow hhigh]
    case nes => rw [peek_hostReset, peek_loaded_byte_nes hfits hmap hk hsize hram]

end Sys2Proof.Machine
end

section
/-! SUPPORT. The contracts of the loads (R160 to R162), TXS (R171), ADC, SBC and the comparisons (R180 to R188), AND,
ORA and EOR (R211 to R213), USBC (R293), XAA and LXA (R294, R295). One rule says how an instruction that reads M
completes, official or undocumented. -/

namespace Sys2Proof.Machine

open Sys2Proof.Claims

/-! ### From the handler to the completed instruction -/

/-- The instruction is neither BRK nor refused nor unmapped: it is official, or undocumented under
UNDOC_POLICY = implement. -/
def RunsHandler (i : Instr) (s : State) : Prop :=
  (i ≠ .brk ∧ i.entry.cls = .official) ∨ (i.entry.cls = .undocumented ∧ s.cfg.undocPolicy = .implement)

section
variable {op l h v : Byte} {i : Instr} {o : Operand} {s u : State} (hi : RunsHandler i s)
include hi

theorem runs_of_runsHandler {acc : List BusEvent} (hd : handlerFor i.entry (operandOf i) s = .done u)
    (hbus : u.bus = s.bus ++ acc) : Runs i s u acc := by
  obtain ⟨hbrk, hc⟩ | ⟨hc, hpol⟩ := hi
  · exact runs_of_done hbrk hc hd hbus
  · exact runs_of_done_undocumented hpol hc hd hbus

variable (hmode : o.mode ≠ .implied) {k : Byte → State → Effect}
  (hh : handlerFor i.entry (operandOf i) s = s.withM o k)
include hmode hh

/-- A handler that reads M and ends in u, whatever the accesses were. -/
theorem runs_of_withM
    (hk : ∀ bus draws, k (s.operandVal o) { s with bus := bus, draws := draws } =
      .done { u with bus := bus, draws := draws }) : Runs i s u (reads s o) := by
  rw [State.withM_of_mode s hmode, s.afterOperand_eq hmode, hk] at hh
  exact runs_of_runsHandler hi (u := { u with
    bus := s.bus ++ reads s o, draws := (s.afterOperand o).draws }) hh rfl

/-- A handler that reads M and ends in u with N and Z set from v. -/
theorem yields_of_read (hread : ReadsAs op l h i)
    (hk : ∀ bus draws, k (s.operandVal o) { s with bus := bus, draws := draws } =
      .done { u with p := setNZ v s.p, bus := bus, draws := draws }) :
    Yields ⟨op, i, o⟩ l h s u v (reads s o) :=
  ⟨hread, setNZ v s.p, runs_of_withM hi hmode hh hk, flagsOf_setNZ v s.p, onlyFlags_setNZ v s.p⟩

end

theorem runsHandler_official {i : Instr} {s : State} (hbrk : i ≠ .brk) (hc : i.entry.cls = .official) :
    RunsHandler i s := .inl ⟨hbrk, hc⟩

theorem runsHandler_undocumented {i : Instr} {s : State} (hpol : s.cfg.undocPolicy = .implement)
    (hc : i.entry.cls = .undocumented) : RunsHandler i s := .inr ⟨hc, hpol⟩

/-! ### Loads, logic and TXS -/

/-- Settles O15: each handler reads M, writes it to its register and sets N and Z from it. -/
theorem loadsSetRegisterAndNZ : Obligations.LoadsSetRegisterAndNZ := by
  intro l h s
  refine ⟨fun f hf => ?lda, fun f hf => ?ldx, fun f hf => ?ldy⟩
  case lda =>
    fin_cases hf <;> exact yields_of_read (k := fun m t => .done ((t.setA m).setNZ m))
      (runsHandler_official nofun rfl) nofun rfl ⟨_, rfl⟩ fun _ _ => rfl
  case ldx =>
    fin_cases hf <;> exact yields_of_read (k := fun m t => .done ((t.setX m).setNZ m))
      (runsHandler_official nofun rfl) nofun rfl ⟨_, rfl⟩ fun _ _ => rfl
  case ldy =>
    fin_cases hf <;> exact yields_of_read (k := fun m t => .done ((t.setY m).setNZ m))
      (runsHandler_official nofun rfl) nofun rfl ⟨_, rfl⟩ fun _ _ => rfl

/-- Settles O25: each handler reads M and sets A, N and Z from its combination with A. -/
theorem logicCombinesIntoA : Obligations.LogicCombinesIntoA := by
  intro l h s
  refine ⟨fun f hf => ?and, fun f hf => ?ora, fun f hf => ?eor⟩
  case and =>
    fin_cases hf <;> exact yields_of_read (k := fun m t => .done ((t.setA (t.a &&& m)).setNZ (t.a &&& m)))
      (runsHandler_official nofun rfl) nofun rfl ⟨_, rfl⟩ fun _ _ => rfl
  case ora =>
    fin_cases hf <;> exact yields_of_read (k := fun m t => .done ((t.setA (t.a ||| m)).setNZ (t.a ||| m)))
      (runsHandler_official nofun rfl) nofun rfl ⟨_, rfl⟩ fun _ _ => rfl
  case eor =>
    fin_cases hf <;> exact yields_of_read (k := fun m t => .done ((t.setA (t.a ^^^ m)).setNZ (t.a ^^^ m)))
      (runsHandler_official nofun rfl) nofun rfl ⟨_, rfl⟩ fun _ _ => rfl

/-- Settles O46: XAA and LXA are such handlers too, undocumented, on their own AND. -/
theorem unstableLoads : Obligations.UnstableLoads := by
  refine fun l h s hpol => ⟨?xaa, ?lxa⟩
  case xaa =>
    have hh : handlerFor (Instr.xaaImm l).entry (operandOf (.xaaImm l)) s = handleXaa (.imm l) s := rfl
    exact yields_of_read (runsHandler_undocumented hpol rfl) nofun hh ⟨_, rfl⟩ fun _ _ => rfl
  case lxa =>
    have hh : handlerFor (Instr.lxaImm l).entry (operandOf (.lxaImm l)) s = handleLxa (.imm l) s := rfl
    exact yields_of_read (runsHandler_undocumented hpol rfl) nofun hh ⟨_, rfl⟩ fun _ _ => rfl

/-- Settles O18: the handler writes X to SP and nothing else (C5). -/
theorem txsCopiesWithoutFlags : Obligations.TxsCopiesWithoutFlags :=
  fun _ _ s => ⟨⟨_, rfl⟩, runs_of_done (t := s.setSp s.x) nofun rfl rfl (List.append_nil _).symm⟩

/-! ### ADC, SBC and the comparisons -/

section
variable {i : Instr} {o : Operand} {s : State} (hi : RunsHandler i s) (hmode : o.mode ≠ .implied)
include hi hmode

theorem runs_of_handleAdc (hh : handlerFor i.entry (operandOf i) s = handleAdc o s) :
    ∃ r p, Runs i s { s with a := r, p := p } (reads s o) ∧ Added s.a (s.operandVal o) s.p r p :=
  ⟨_, _, runs_of_withM (u := s.addToA (s.operandVal o)) hi hmode hh fun _ _ => rfl, added_adcCore _ _ _⟩

theorem runs_of_handleCmp (hh : handlerFor i.entry (operandOf i) s = handleCmp o s) :
    ∃ p, Runs i s { s with p := p } (reads s o) ∧ Compared s.a (s.operandVal o) s.p p :=
  ⟨_, runs_of_withM hi hmode hh fun _ _ => rfl, compared_cmpCore _ _ _⟩

theorem runs_of_handleCpx (hh : handlerFor i.entry (operandOf i) s = handleCpx o s) :
    ∃ p, Runs i s { s with p := p } (reads s o) ∧ Compared s.x (s.operandVal o) s.p p :=
  ⟨_, runs_of_withM hi hmode hh fun _ _ => rfl, compared_cmpCore _ _ _⟩

theorem runs_of_handleCpy (hh : handlerFor i.entry (operandOf i) s = handleCpy o s) :
    ∃ p, Runs i s { s with p := p } (reads s o) ∧ Compared s.y (s.operandVal o) s.p p :=
  ⟨_, runs_of_withM hi hmode hh fun _ _ => rfl, compared_cmpCore _ _ _⟩

end

/-- Settles O19: the handler of each encoding hands M to the adder. -/
theorem adcAddsWithCarry : Obligations.AdcAddsWithCarry := by
  intro l h s f hf
  fin_cases hf <;> dsimp only <;> exact ⟨⟨_, rfl⟩, runs_of_handleAdc (runsHandler_official nofun rfl) nofun rfl⟩

/-- Settles O21: the handler of each encoding compares its register with M. -/
theorem comparesSetCarryZeroNegative : Obligations.ComparesSetCarryZeroNegative := by
  intro l h s
  refine ⟨fun f hf => ?cmp, fun f hf => ?cpx, fun f hf => ?cpy⟩
  case cmp =>
    fin_cases hf <;> dsimp only <;>
      exact ⟨⟨_, rfl⟩, runs_of_handleCmp (runsHandler_official nofun rfl) nofun rfl⟩
  case cpx =>
    fin_cases hf <;> dsimp only <;>
      exact ⟨⟨_, rfl⟩, runs_of_handleCpx (runsHandler_official nofun rfl) nofun rfl⟩
  case cpy =>
    fin_cases hf <;> dsimp only <;>
      exact ⟨⟨_, rfl⟩, runs_of_handleCpy (runsHandler_official nofun rfl) nofun rfl⟩

theorem subtrahend_eq (s : State) (m : Byte) : subtrahend s m = sbcOperand s.cfg.sbcForm m := by
  rw [subtrahend]
  cases s.cfg.sbcForm <;> rfl

/-- Adding the complement of m with the carry subtracts m and the borrow, which is the complement of the carry; the
carry out is 0 exactly on a borrow (R184). -/
theorem added_not {a m p r q : Byte} (h : Added a (~~~m) p r q) :
    r = a - m - (if getFlag .c p then 0 else 1) ∧
    getFlag .c q = decide (m.toNat + (if getFlag .c p then 0 else 1) ≤ a.toNat) := by
  obtain ⟨hr, hc, -⟩ := h
  have ha := a.isLt
  have hm := m.isLt
  have hnot : (~~~m).toNat = 255 - m.toNat := BitVec.toNat_not
  rw [hnot] at hr hc
  cases hcarry : getFlag .c p with
  | false =>
    simp only [hcarry, Bool.false_eq_true, if_false] at hr hc ⊢
    exact ⟨by bv_omega, hc.trans (decide_eq_decide.mpr (by omega))⟩
  | true =>
    simp only [hcarry, if_true] at hr hc ⊢
    exact ⟨by bv_omega, hc.trans (decide_eq_decide.mpr (by omega))⟩

theorem subtracts_of_subFromA {op l h : Byte} {i : Instr} {o : Operand} {s : State} (hread : ReadsAs op l h i)
    (hi : RunsHandler i s) (hmode : o.mode ≠ .implied)
    (hh : handlerFor i.entry (operandOf i) s = s.withM o fun m t => .done (t.subFromA m)) :
    Subtracts ⟨op, i, o⟩ l h s := by
  have hruns := runs_of_withM hi hmode (u := s.subFromA (s.operandVal o)) hh fun _ _ => rfl
  have hadded : Added s.a (subtrahend s (s.operandVal o)) s.p (s.subFromA (s.operandVal o)).a
      (s.subFromA (s.operandVal o)).p := by
    rw [subtrahend_eq]
    exact added_adcCore ..
  refine ⟨hread, _, _, hruns, hadded, fun hform => added_not (q := (s.subFromA (s.operandVal o)).p) ?complement⟩
  case complement =>
    rw [subtrahend, if_pos hform] at hadded
    exact hadded

/-- Settles O20: each handler hands M to the subtraction, USBC's included. -/
theorem sbcSubtractsWithBorrow : Obligations.SbcSubtractsWithBorrow := by
  refine fun l h s => ⟨fun f hf => ?sbc, fun hpol => ?usbc⟩
  case sbc => fin_cases hf <;> exact subtracts_of_subFromA ⟨_, rfl⟩ (runsHandler_official nofun rfl) nofun rfl
  case usbc => exact subtracts_of_subFromA ⟨_, rfl⟩ (runsHandler_undocumented hpol rfl) nofun rfl

end Sys2Proof.Machine
end

section
/-! SUPPORT. The contracts of PLP (R233), the NOPs (R241, R301), RTI (R254), ISB (R288), the undocumented immediates
(R289 to R292) and the high-byte stores (R297 to R300). -/

namespace Sys2Proof.Machine

open Sys2Proof.Claims

/-! ### PLP and RTI -/

/-- Settles O33: the handler writes the image of the popped byte to P, and the pop is one read at SP + 1. -/
theorem plpPullsStatus : Obligations.PlpPullsStatus := by
  intro l h s
  have hruns : Runs .plp s (s.afterPop.setP (plpImage s.cfg.plpPolicy s.popVal))
      [⟨.read, stackAddr (s.sp + 1), s.popVal⟩] :=
    runs_of_done nofun rfl rfl s.afterPop_bus
  refine ⟨⟨_, rfl⟩, _, hruns, fun hpol => ?literal, fun hpol => ?asRti⟩
  case literal => simp only [State.setP_p, hpol, plpImage, State.popVal]
  case asRti => simp only [State.setP_p, hpol, plpImage, State.popVal]

/-- RTI's three pops read the three stack addresses after SP; what is written to P changes none of the reads. -/
theorem handleRti_eq (s : State) : handleRti s =
    .jump (word16 (s.read (stackAddr (s.sp + 3))) (s.read (stackAddr (s.sp + 2)))) { s with
      sp := s.sp + 3
      p := rtiImage (s.read (stackAddr (s.sp + 1)))
      bus := s.bus ++ [⟨.read, stackAddr (s.sp + 1), s.read (stackAddr (s.sp + 1))⟩,
        ⟨.read, stackAddr (s.sp + 2), s.read (stackAddr (s.sp + 2))⟩,
        ⟨.read, stackAddr (s.sp + 3), s.read (stackAddr (s.sp + 3))⟩] } := by
  let t := s.afterPop.setP (rtiImage s.popVal)
  have hjump : handleRti s = .jump (word16 t.afterPop.popVal t.popVal) t.afterPop.afterPop := rfl
  have hread (sp : Byte) : t.read (stackAddr sp) = s.read (stackAddr sp) :=
    State.read_congr (s := s) (t := t) rfl rfl (by simp [routeOf_stackAddr])
  have hsp1 : t.sp + 1 = s.sp + 2 := sp_add_one_add_one s.sp
  have hsp2 : t.sp + 2 = s.sp + 3 := BitVec.add_assoc s.sp 1 2
  have hbus : t.bus = s.bus ++ [⟨.read, stackAddr (s.sp + 1), s.popVal⟩] := s.afterPop_bus
  have hdraws : t.draws = s.draws := s.afterPop_draws
  have hframe : t = { s with sp := t.sp, p := rtiImage s.popVal, bus := t.bus, draws := t.draws } := rfl
  rw [hjump, State.popVal_afterPop, State.popVal, State.afterPop_afterPop_eq, hsp1, hsp2, hread, hread, hbus,
    List.append_assoc, hframe, hdraws]
  rfl

/-- Settles O39: `rtiImage` is the popped byte with bit 4 clear and bit 5 set. -/
theorem rtiPopsStatusAndAddress : Obligations.RtiPopsStatusAndAddress := by
  intro l h s
  have hruns := runsTo_of_jump (i := .rti) nofun rfl (handleRti_eq s) rfl
  exact ⟨⟨_, rfl⟩, hruns⟩

/-! ### The NOPs -/

/-- Settles O35: a form with a memory operand reads M and ends in the state of that read, the others end where they
began. -/
theorem nopsChangeNothing : Obligations.NopsChangeNothing := by
  intro l h s
  have noAccess : s.bus = s.bus ++ [] := (List.append_nil _).symm
  refine ⟨⟨⟨_, rfl⟩, runs_of_done nofun rfl rfl noAccess⟩, fun hpol =>
    ⟨fun g hg => ?implied, fun f hf => ?reading⟩⟩
  case implied =>
    fin_cases hg <;> exact ⟨⟨_, rfl⟩, runs_of_done_undocumented hpol rfl rfl noAccess⟩
  case reading =>
    fin_cases hf <;> dsimp only <;>
      exact ⟨⟨_, rfl⟩, runs_of_withM (k := fun _ t => .done t) (runsHandler_undocumented hpol rfl) nofun rfl
        fun _ _ => rfl⟩

/-! ### ISB -/

theorem runs_of_handleIsb {i : Instr} {o : Operand} {s : State} (hpol : s.cfg.undocPolicy = .implement)
    (hc : i.entry.cls = .undocumented) (hmode : o.mode ≠ .implied)
    (hh : handlerFor i.entry (operandOf i) s = handleIsb o s) :
    let r := s.operandVal o + 1
    ∃ mem a p, Runs i s { s with mem := mem, p := p, a := a } (modifies s o r) ∧ Stored s mem (s.ea o) r ∧
      Added s.a (subtrahend s r) s.p a p := by
  obtain ⟨mem, hruns, hstored⟩ := runs_stored_of_modifying hpol hc hmode hh fun _ _ _ => rfl
  refine ⟨mem, _, _, hruns, hstored, ?adder⟩
  case adder =>
    rw [subtrahend_eq]
    exact added_adcCore ..

/-- Settles O43: the handler subtracts the byte it writes back. -/
theorem isbIncrementsAndSubtracts : Obligations.IsbIncrementsAndSubtracts := by
  intro l h s hpol f hf
  fin_cases hf <;> dsimp only <;> exact ⟨⟨_, rfl⟩, runs_of_handleIsb hpol rfl nofun rfl⟩

/-! ### The immediates -/

theorem flags_ancCore (a m p : Byte) : FlagsOf (a &&& m) (ancCore a m p).2 ∧
    getFlag .c (ancCore a m p).2 = (a &&& m).getLsbD 7 := by
  simp [FlagsOf, ancCore, getFlag_setFlag, getFlag_setNZ]

theorem flags_arrCore (a m p : Byte) : FlagsOf (ror.result (a &&& m) (getFlag .c p)) (arrCore a m p).2 ∧
    getFlag .c (arrCore a m p).2 = (ror.result (a &&& m) (getFlag .c p)).getLsbD 6 ∧
    getFlag .v (arrCore a m p).2 = ((ror.result (a &&& m) (getFlag .c p)).getLsbD 6 !=
      (ror.result (a &&& m) (getFlag .c p)).getLsbD 5) := by
  simp [FlagsOf, arrCore, ror, getFlag_setFlag, getFlag_setNZ]

theorem flags_sbxCore (a x m p : Byte) : FlagsOf ((a &&& x) - m) (sbxCore a x m p).2 ∧
    getFlag .c (sbxCore a x m p).2 = decide (m.toNat ≤ (a &&& x).toNat) := by
  have hnz := onlyFlags_setNZ ((a &&& x) - m) (setFlag .c (decide (m ≤ a &&& x)) p)
  exact ⟨flagsOf_setNZ _ _, (hnz .c (by decide)).trans (getFlag_setFlag_same .c _ _)⟩

/-- An immediate handler that ends in u: the operand byte has been read by the fetch. -/
theorem runs_of_immediate {i : Instr} {d : Byte} {s u : State} {k : Byte → State → Effect}
    (hpol : s.cfg.undocPolicy = .implement) (hc : i.entry.cls = .undocumented)
    (hh : handlerFor i.entry (operandOf i) s = s.withM (.imm d) k)
    (hk : ∀ bus draws, k d { s with bus := bus, draws := draws } = .done { u with bus := bus, draws := draws }) :
    Runs i s u [] :=
  runs_of_withM (o := .imm d) (runsHandler_undocumented hpol hc) nofun hh hk

/-- Settles O45: each handler writes the result and the flags of its core; ALR's is the core of LSR at A & M. -/
theorem immediateComposites : Obligations.ImmediateComposites := by
  intro d h s hpol
  refine ⟨fun f hf => ?anc, ⟨⟨_, rfl⟩, ?alr⟩, ⟨⟨_, rfl⟩, ?arr⟩, ⟨⟨_, rfl⟩, ?sbx⟩⟩
  case anc =>
    obtain ⟨hnz, hcarry⟩ := flags_ancCore s.a d s.p
    have honly := onlyFlags_ancCore s.a d s.p
    have hruns {i : Instr} (hc : i.entry.cls = .undocumented)
        (hh : handlerFor i.entry (operandOf i) s = handleAnc (.imm d) s) :
        Runs i s { s with a := s.a &&& d, p := (ancCore s.a d s.p).2 } [] :=
      runs_of_immediate hpol hc hh fun _ _ => rfl
    fin_cases hf <;> dsimp only <;> exact ⟨⟨_, rfl⟩, _, hruns rfl rfl, hnz, hcarry, honly⟩
  case alr =>
    have hh : handlerFor (Instr.alrImm d).entry (operandOf (.alrImm d)) s = handleAlr (.imm d) s := rfl
    exact ⟨_, runs_of_immediate hpol rfl hh fun _ _ => rfl, shiftFlags_core lsr (s.a &&& d) s.p⟩
  case arr =>
    obtain ⟨hnz, hcarry, hoverflow⟩ := flags_arrCore s.a d s.p
    have hh : handlerFor (Instr.arrImm d).entry (operandOf (.arrImm d)) s = handleArr (.imm d) s := rfl
    exact ⟨_, runs_of_immediate hpol rfl hh fun _ _ => rfl, hnz, hcarry, hoverflow, onlyFlags_arrCore _ _ _⟩
  case sbx =>
    obtain ⟨hnz, hcarry⟩ := flags_sbxCore s.a s.x d s.p
    have hh : handlerFor (Instr.sbxImm d).entry (operandOf (.sbxImm d)) s = handleSbx (.imm d) s := rfl
    exact ⟨_, runs_of_immediate hpol rfl hh fun _ _ => rfl, hnz, hcarry,
      onlyFlags_of_subset (onlyFlags_sbxCore _ _ _ _) (by decide)⟩

/-! ### The high-byte stores -/

/-- H + 1 from the effective address less the index is H + 1 from the base address (R297 to R300). -/
theorem baseHighPlusOne_eq (s : State) {o : Operand} (ho : o.mode ∈ [Mode.absoluteX, .absoluteY, .indirectY]) :
    s.baseHighPlusOne o = hPlusOne s o := by
  have hbase (w : Word) (index : Byte) : w + zext16 index - zext16 index = w := BitVec.add_sub_cancel w _
  cases o with
  | absx w => rw [State.baseHighPlusOne, State.ea, State.indexOf, hbase, hPlusOne]
  | absy w => rw [State.baseHighPlusOne, State.ea, State.indexOf, hbase, hPlusOne]
  | indy a =>
    rw [State.baseHighPlusOne, State.ea, State.indexOf, hbase, hPlusOne, State.readZpPtr_eq, hi8_word16]
  | _ => exact absurd ho (by simp [Operand.mode])

/-- A handler that stores a value ANDed with H + 1. -/
theorem stores_of_highByte {op l h value : Byte} {i : Instr} {o : Operand} {s : State} (hread : ReadsAs op l h i)
    (hpol : s.cfg.undocPolicy = .implement) (hc : i.entry.cls = .undocumented)
    (ho : o.mode ∈ [Mode.absoluteX, .absoluteY, .indirectY])
    (hh : handlerFor i.entry (operandOf i) s = s.storing o (value &&& s.baseHighPlusOne o)) :
    Stores ⟨op, i, o⟩ l h s (value &&& hPlusOne s o) := by
  have hmode : o.mode ≠ .implied := fun himplied => by simp [himplied] at ho
  rw [baseHighPlusOne_eq s ho] at hh
  exact stores_of_storing_undocumented hread hpol hc hmode hh

/-- TAS moves A & X to SP and stores it ANDed with H + 1. -/
theorem tas_runs {w : Word} {s : State} (hpol : s.cfg.undocPolicy = .implement) :
    let v := s.a &&& s.x &&& hPlusOne s (.absy w)
    Runs (.tasAbsy w) s { s with mem := (s.write (s.ea (.absy w)) v).mem, sp := s.a &&& s.x }
      (writes s (.absy w) v) := by
  have hh : handleTas (.absy w) s = .done ((s.setSp (s.a &&& s.x)).write (s.ea (.absy w))
      (s.a &&& s.x &&& s.baseHighPlusOne (.absy w))) := State.withEa_of_mode (o := .absy w) _ nofun _
  rw [baseHighPlusOne_eq s (by simp [Operand.mode])] at hh
  have hruns := runs_of_done_undocumented (i := .tasAbsy w) hpol rfl hh rfl
  exact hruns

/-- Settles O48: H + 1 of an absolute operand is the operand's own high byte plus 1. -/
theorem highByteStores : Obligations.HighByteStores := by
  intro l h s hpol
  have hy : hPlusOne s (.absy (word16 h l)) = h + 1 := congrArg (· + 1) (hi8_word16 h l)
  have hx : hPlusOne s (.absx (word16 h l)) = h + 1 := congrArg (· + 1) (hi8_word16 h l)
  rw [← hy]
  refine ⟨⟨⟨_, rfl⟩, _, tas_runs hpol, s.stored_write _ _⟩, fun f hf => ?sha, ?shx, ?shy⟩
  case sha => fin_cases hf <;> exact stores_of_highByte ⟨_, rfl⟩ hpol rfl (by simp [Operand.mode]) rfl
  case shx => exact stores_of_highByte ⟨_, rfl⟩ hpol rfl (by simp [Operand.mode]) rfl
  case shy =>
    rw [hy, ← hx]
    exact stores_of_highByte ⟨_, rfl⟩ hpol rfl (by simp [Operand.mode]) rfl

end Sys2Proof.Machine
end
